-- ==== Sys2Proof/Word.lean ====
section
/-! DEFINITION. The word types of the block, each at the one width the spec gives it. -/

namespace Sys2Proof

/-- A byte of a frame, of the line or of the slot store (R6: "bytes are 8-bit unsigned values"). -/
abbrev Byte := BitVec 8

/-- A 16-bit operation label (R70). -/
abbrev Label := BitVec 16

/-- A 32-bit register of the register space (R35) and the width of a statistics counter (R4 STAT_WIDTH). -/
abbrev Reg := BitVec 32

/-- The producer port's `put_data`: 14 body bytes, byte i on bits [8i+7:8i] (R26, R52). -/
abbrev PutData := BitVec 112

/-- A slot index as SND_SLOT and the two FIFOs hold it (R20: 8 bits, 0..N_SLOTS-1). -/
abbrev SlotIx := BitVec 8

end Sys2Proof
end

