-- ==== Sys2Proof/Config.lean ====
section
/-! DEFINITION. The implementation parameters of `00_scope.md` R4: what an instance fixes and no operation writes. -/

namespace Sys2Proof

/-- FRAME_SIZE, bytes per frame and per SyncFrame: 15, fixed (R4). -/
abbrev frameSize : Nat := 15

/-- BODY_SIZE, bytes covered by the checksum: 14, fixed (R4). -/
abbrev bodySize : Nat := 14

/-- SYNC_HITS, the 0xFF hits that end a resync: 15, fixed (R4). -/
abbrev syncHits : Nat := 15

/-- CHECKSUM_ALG (R4, R90). -/
inductive ChecksumAlg
  | xor8
  | sum8
  deriving DecidableEq, Repr

/-- SYNC_HIT_MODE: whether a non-0xFF byte resets the hit counter (R4, R123). -/
inductive SyncHitMode
  | cumulative
  | contiguous
  deriving DecidableEq, Repr

/-- TMO_COUNT_MODE: which resync passes advance the timeout counter (R4, R123). -/
inductive TmoCountMode
  | everyPass
  | timeoutOnly
  deriving DecidableEq, Repr

/-- The parameters of R4 that vary between instances.
`byteTimeoutCycles` is BYTE_TIMEOUT in clock cycles; only the byte timer of R127 reads it. -/
structure Config where
  nSlots : Nat
  syncTimeoutThrs : Nat
  checksumAlg : ChecksumAlg
  syncHitMode : SyncHitMode
  tmoCountMode : TmoCountMode
  byteTimeoutCycles : Nat
  deriving DecidableEq, Repr

/-- BYTE_TIMEOUT_CYCLES of the reference instance, less one.
R4 leaves the number OPEN (D24, U17), so it has no body: nothing is known of it (log 7). -/
opaque Config.openByteTimeout : Nat

/-- The reference instance: the defaults of R4. -/
def Config.default : Config where
  nSlots := 97
  syncTimeoutThrs := 100
  checksumAlg := .xor8
  syncHitMode := .cumulative
  tmoCountMode := .everyPass
  byteTimeoutCycles := Config.openByteTimeout + 1

end Sys2Proof
end

