-- ==== Sys2Proof/Syntax.lean ====
section
/-! DEFINITION. The nine atomic operations of the block, one constructor per row of `spec/opcode_table.json`. -/

namespace Sys2Proof

/-- One operation instance (R72).
PUT_FRAME carries its body as the value of put_data (R70); REG_READ its register address and RX_BYTE the received
byte, both the label's field D (R71). -/
inductive Instr
  | init
  | start
  | putFrame (putData : PutData)
  | regRead (addr : Byte)
  | rxByte (b : Byte)
  | txByte
  | timeout
  | sndDeq
  | syncAcq
  deriving DecidableEq, Repr

end Sys2Proof
end

