-- ==== Sys2Proof/Trace.lean ====
section
/-! DEFINITION. What the outside world can present to the block: labels of a trace (R70, R77) and clock edges with their
pins (R26). -/

namespace Sys2Proof

/-- One line of a trace (R77): a 16-bit label and the operand bytes that follow it, `Id` first (R70, R76). -/
structure TraceLine where
  label : Label
  operand : List Byte
  deriving DecidableEq, Repr

/-- The input pins of R26 at one rising edge of `clk`.
`syncGo` and `sndGo` are no pins: they say whether the sync FSM's requester and the sender engine perform their operation
in this cycle where it is enabled, which R205 leaves to the implementation ("may perform", log 8). -/
structure ClockCycle where
  rstN : Bool
  regAddr : Byte
  regRd : Bool
  regWr : Bool
  regWdata : Reg
  putValid : Bool
  putData : PutData
  txReady : Bool
  rxValid : Bool
  rxData : Byte
  syncGo : Bool
  sndGo : Bool
  deriving DecidableEq, Repr

/-- One event of the schedule: a label to be performed, or a rising clock edge of the pin-level rendering. -/
inductive Input
  | label (t : TraceLine)
  | cycle (c : ClockCycle)
  deriving DecidableEq, Repr

/-- The agents of R8 and R72. -/
inductive Agent
  | host
  | line
  | sender
  | sync
  deriving DecidableEq, Repr

end Sys2Proof
end

