-- ==== Sys2Proof/Machine/State.lean ====
section
/-! DEFINITION. The architectural state of `10_state.md` R20, the state after reset (`70_reset_and_hazards.md` R200), and
the reasons a step can stop. -/

namespace Sys2Proof.Machine

/-- LSTATE (R21). -/
inductive Lifecycle
  | uninit
  | stopped
  | active
  deriving DecidableEq, Repr

/-- SND_STATE (R25). -/
inductive SndState
  | idle
  | tx
  deriving DecidableEq, Repr

/-- OWNER (R28). -/
inductive Owner
  | none
  | sender
  | sync
  deriving DecidableEq, Repr

/-- SYNC_STATE (R30). -/
inductive SyncState
  | synced
  | waitGrant
  | resync
  deriving DecidableEq, Repr

/-- The six statistics counters (R34). -/
structure Stats where
  sent : Reg
  received : Reg
  lost : Reg
  syncTriggered : Reg
  syncTmoTicks : Reg
  syncFramesSent : Reg
  deriving DecidableEq, Repr

/-- A byte store: (address, byte) pairs at strictly rising addresses.
An unlisted address is unwritten (R201: "A model represents them as unwritten"), so it reads as no value. -/
abbrev Memory := List Host.Cell

/-- The one canonical form of a byte store. -/
abbrev Memory.wf (m : Memory) : Prop := m.Pairwise (fun x y => x.1 < y.1)

/-- The state of the block (R20), its configuration, and the model's own input and output lists. -/
structure State where
  /-- The instance's parameters (R4): fixed, no operation writes them (log 1). -/
  cfg : Config
  /-- LSTATE (R21). -/
  lstate : Lifecycle
  /-- SLOT: byte i of slot s at address s * 15 + i (R22, R50). -/
  slots : Memory
  /-- FREE_Q, head first (R23). -/
  freeQ : List SlotIx
  /-- FILLED_Q, head first (R24). -/
  filledQ : List SlotIx
  /-- SND_STATE (R25). -/
  sndState : SndState
  /-- SND_SLOT (R25). -/
  sndSlot : SlotIx
  /-- SND_IDX (R25). -/
  sndIdx : BitVec 4
  /-- OWNER (R28). -/
  owner : Owner
  /-- RX_BUF: byte i at address i (R29). -/
  rxBuf : Memory
  /-- RX_CNT (R29). -/
  rxCnt : BitVec 4
  /-- SYNC_STATE (R30). -/
  syncState : SyncState
  /-- SYNC_TX_REM (R31). -/
  syncTxRem : BitVec 4
  /-- HIT_CNT (R32). -/
  hitCnt : BitVec 4
  /-- TMO_CNT (R33). -/
  tmoCnt : BitVec 8
  /-- The statistics counters (R34). -/
  stats : Stats
  /-- BYTE_TIMER of a clocked implementation (R127); no labelled operation reads or writes it. -/
  byteTimer : Nat
  /-- The model's own: the pending labels and clock edges, next first (log 4). -/
  inputs : List Input
  /-- The model's own: the bytes emitted on the transmit stream since reset, oldest first (R6 `emit_tx`, log 6). -/
  txOut : List Byte
  /-- The model's own: the values REG_READ returned since reset, oldest first (R70, log 6). -/
  rdOut : List Reg
  deriving DecidableEq, Repr

/-- FREE_Q at reset: every slot index in increasing order, 0 at the head (R23). -/
def initialFreeQ (n : Nat) : List SlotIx := (List.range n).map (BitVec.ofNat 8)

/-- Every counter at 0 (R34, R200). -/
def Stats.zero : Stats := ⟨0, 0, 0, 0, 0, 0⟩

/-- The reset state of an instance with parameters `c` (R20, R200); the slot store and RX_BUF unwritten (R201). -/
def State.resetWith (c : Config) : State where
  cfg := c
  lstate := .uninit
  slots := []
  freeQ := initialFreeQ c.nSlots
  filledQ := []
  sndState := .idle
  sndSlot := 0
  sndIdx := 0
  owner := .none
  rxBuf := []
  rxCnt := 0
  syncState := .synced
  syncTxRem := 0
  hitCnt := 0
  tmoCnt := 0
  stats := Stats.zero
  byteTimer := 0
  inputs := []
  txOut := []
  rdOut := []

/-- The reference instance right after reset. -/
def State.reset : State := State.resetWith Config.default

/-- The model faults of R6 (`ModelFault`): cases R65, R201 and I3 show unreachable from reset.
Each is safe: the model stops where the spec says a model "has a bug and should fault" (R201). -/
inductive Fault
  /-- `pop` on an empty FIFO (R6), raised by acquireFree and dequeueFilled; safe. -/
  | fifoEmpty
  /-- `push` on a full FIFO (R6), raised by enqueueFilled and releaseFree; safe. -/
  | fifoFull
  /-- `push` of a slot index the FIFO already holds (I3, double free), raised by enqueueFilled and releaseFree; safe. -/
  | slotIndexTwice
  /-- A slot byte read before PUT_FRAME wrote it since reset (R22, R201), raised by memRead; safe. -/
  | unwrittenSlotByte
  /-- An address outside the N_SLOTS * 15 bytes of the slot store (R50), raised by memRead and memWrite; safe. -/
  | slotAddress
  /-- An RX_BUF byte read before it was written (R29, R201), raised by readFrame; safe. -/
  | unwrittenRxByte
  /-- An RX_BUF index above 14 (R29: RX_CNT is 0..14), raised by rxStore; safe. -/
  | rxBufIndex
  deriving DecidableEq, Repr

/-- What the model refuses because it is ill-formed input, not a behaviour of the block. -/
inductive Refusal
  /-- An instruction without a meaning; raised by no arm of exec. -/
  | notModelled (mnemonic : String)
  /-- A label with OPC 0x0 or 0xA to 0xF (R74); raised by fetching a trace line; safe. -/
  | reservedOpcode
  /-- A label whose field A is not 0 (R74); raised by fetching a trace line; safe. -/
  | reservedA
  /-- A label with D not 0 and OPC not 0x4 or 0x5 (R74); raised by fetching a trace line; safe. -/
  | reservedD
  /-- A label whose operand is not the one R70 and R76 give it; raised by fetching a trace line; safe. -/
  | operandLength
  /-- A configuration outside R4's legal values; raised by step; safe. -/
  | illegalConfig
  deriving DecidableEq, Repr

end Sys2Proof.Machine
end

