-- ==== Sys2Proof/Machine/Codec.lean ====
section
/-! DEFINITION. The checksum unit (`40_frame_codec.md`) and the wire frame's fields (`20_memory.md` R54, R55). -/

namespace Sys2Proof.Machine

/-- CHK (R90): XOR8 or SUM8 over the body's bytes, seed 0x00, carries discarded. -/
def chk : ChecksumAlg → List Byte → Byte
  | .xor8, body => body.foldl (fun x b => x ^^^ b) 0
  | .sum8, body => body.foldl (fun x b => x + b) 0

/-- The frame stamp writes: the body and its checksum (R91). -/
def stamp (alg : ChecksumAlg) (body : List Byte) : List Byte := body ++ [chk alg body]

/-- verify (R92): the checksum of bytes 0..13 against byte 14. -/
def verify (alg : ChecksumAlg) (frame : List Byte) : Bool :=
  decide (frame[bodySize]? = some (chk alg (frame.take bodySize)))

/-- A SyncFrame: 15 bytes, every byte 0xFF (R55). -/
def syncFrame : List Byte := List.replicate frameSize 0xFF

/-- `Id`, frame byte 0 (R54). -/
def frameId (frame : List Byte) : Option Byte := frame[0]?

/-- `SequenceNumber`, frame byte 1 (R54). -/
def frameSeq (frame : List Byte) : Option Byte := frame[1]?

/-- `Payload`, frame bytes 2..13: payload byte k is frame byte 2+k (R54). -/
def framePayload (frame : List Byte) : List Byte := (frame.drop 2).take 12

/-- `Checksum`, frame byte 14 (R54). -/
def frameChecksum (frame : List Byte) : Option Byte := frame[14]?

end Sys2Proof.Machine
end

