-- ==== Sys2Proof/Decode.lean ====
section
/-! DEFINITION. Decoding of trace lines (`30_encoding.md` R70 to R76), total, each reserved form rejected by name; and the
encoder written from the same table. -/

namespace Sys2Proof

/-- Why a trace line names no operation (R74). -/
inductive DecodeError
  | reservedOpcode
  | reservedA
  | reservedD
  | operandLength
  deriving DecidableEq, Repr

/-! ## Fields (R70) and the body operand (R52, R71) -/

/-- OPC, bits [15:12]. -/
def opcOf (l : Label) : BitVec 4 := l.extractLsb' 12 4

/-- A, bits [11:8]. -/
def fieldA (l : Label) : BitVec 4 := l.extractLsb' 8 4

/-- D, bits [7:0]. -/
def fieldD (l : Label) : Byte := l.extractLsb' 0 8

/-- Body byte i is `put_data[8i+7:8i]` (R52, R71). -/
def bodyByte (d : PutData) (i : Nat) : Byte := d.extractLsb' (8 * i) 8

/-- The 14 body bytes, `Id` first (R54). -/
def bodyBytes (d : PutData) : List Byte := (List.range bodySize).map (bodyByte d)

/-- Bytes put side by side, the first one least significant (R52). -/
def packBytes : List Byte → Nat
  | [] => 0
  | b :: bs => b.toNat + 256 * packBytes bs

/-- The value of put_data whose body bytes are `bs`. -/
def putDataOf (bs : List Byte) : PutData := BitVec.ofNat 112 (packBytes bs)

/-! ## The decoder -/

/-- A label with no operand outside it (R70: "no other label has an operand outside L"). -/
def noOperand (t : TraceLine) (i : Instr) : Except DecodeError Instr :=
  if t.operand = [] then .ok i else .error .operandLength

/-- A label whose D must be 0 as well. -/
def plain (t : TraceLine) (i : Instr) : Except DecodeError Instr :=
  if fieldD t.label = 0 then noOperand t i else .error .reservedD

/-- PUT_FRAME: D is 0 and 14 body bytes follow (R76). -/
def withBody (t : TraceLine) : Except DecodeError Instr :=
  if fieldD t.label = 0 then
    if t.operand.length = bodySize then .ok (.putFrame (putDataOf t.operand)) else .error .operandLength
  else .error .reservedD

/-- R72: "OPC selects the operation; a decoder checks A = 0 and, for OPC not in {0x4, 0x5}, D = 0". -/
def decode (t : TraceLine) : Except DecodeError Instr :=
  if fieldA t.label ≠ 0 then .error .reservedA
  else
    match (opcOf t.label).toNat with
    | 1 => plain t .init
    | 2 => plain t .start
    | 3 => withBody t
    | 4 => noOperand t (.regRead (fieldD t.label))
    | 5 => noOperand t (.rxByte (fieldD t.label))
    | 6 => plain t .txByte
    | 7 => plain t .timeout
    | 8 => plain t .sndDeq
    | 9 => plain t .syncAcq
    | _ => .error .reservedOpcode

/-! ## The encoder -/

/-- The label of an operation (R72, R77). -/
def labelOf : Instr → Label
  | .init => 0x1000#16
  | .start => 0x2000#16
  | .putFrame _ => 0x3000#16
  | .regRead a => 0x40#8 ++ a
  | .rxByte b => 0x50#8 ++ b
  | .txByte => 0x6000#16
  | .timeout => 0x7000#16
  | .sndDeq => 0x8000#16
  | .syncAcq => 0x9000#16

/-- The operand bytes that follow the label (R70). -/
def operandOf : Instr → List Byte
  | .putFrame d => bodyBytes d
  | .init | .start | .regRead _ | .rxByte _ | .txByte | .timeout | .sndDeq | .syncAcq => []

/-- The trace line of an operation. -/
def encode (i : Instr) : TraceLine := ⟨labelOf i, operandOf i⟩

/-! ## The opcode table's numbering -/

/-- The trace line of a row's word: bit 0 is the label's least significant bit and, for OPC 0x3, put_data counts on from
bit 16; every bit above `nbits` is 0. -/
def TraceLine.ofTableWord (nbits w : Nat) : TraceLine :=
  let v := w % 2 ^ nbits
  let l : Label := BitVec.ofNat 16 v
  ⟨l, if opcOf l = 3 then bodyBytes (BitVec.ofNat 112 (v / 2 ^ 16)) else []⟩

/-- The instruction the decoder reads from a row's word. -/
def decodeTableWord (nbits w : Nat) : Option Instr :=
  match decode (TraceLine.ofTableWord nbits w) with
  | .ok i => some i
  | .error _ => none

end Sys2Proof
end

