-- ==== Sys2Proof/Machine/Operands.lean ====
section
/-! DEFINITION. Operand assembly (`30_encoding.md` R71), the slot store's addresses (`20_memory.md` R50), and the agent of
each operation (R72). -/

namespace Sys2Proof.Machine

/-- The number of the 32-bit register at `{a[7:2], 2'b00}`: a[1:0] is ignored (R35, R71). -/
def regIndex (a : Byte) : Nat := (a.extractLsb' 2 6).toNat

/-- The address of byte i of slot s (R50). -/
def slotAddr (s : SlotIx) (i : Nat) : Nat := s.toNat * frameSize + i

/-- The command a register write carries: CMD 1 at 0x00-0x03 is INIT, CMD 2 is START, every other write changes nothing
(R36, R41, R75). -/
def ctrlCommand (a : Byte) (wdata : Reg) : Option Instr :=
  if regIndex a = 0 then
    match (wdata.extractLsb' 0 2).toNat with
    | 1 => some .init
    | 2 => some .start
    | _ => none
  else none

/-- The agent that performs an operation (R72). -/
def agentOf : Instr → Agent
  | .init | .start | .putFrame _ | .regRead _ => .host
  | .rxByte _ | .txByte | .timeout => .line
  | .sndDeq => .sender
  | .syncAcq => .sync

end Sys2Proof.Machine
end

