-- ==== Sys2Proof/Machine/Flags.lean ====
section
/-! DEFINITION. The guards of the operations, the derived status bits (`10_state.md` R44), the read-only registers
(R35 to R41) and the output pins (R26, R27). -/

namespace Sys2Proof.Machine

/-! ## Guards -/

/-- PUT_FRAME's guard and the pin put_ready (R26, R140). -/
def putReady (s : State) : Bool :=
  decide (s.lstate = .active) && decide (0 < s.freeQ.length)

/-- A byte stands on the transmit stream: `txbyte(S)` is not none (R103). -/
def txOffered (s : State) : Bool :=
  (decide (s.owner = .sender) && decide (s.sndState = .tx)) ||
    (decide (s.owner = .sync) && decide (0 < s.syncTxRem.toNat))

/-- TX_BYTE's guard and the pin tx_valid (R103, R104). -/
def txValid (s : State) : Bool := decide (s.lstate = .active) && txOffered s

/-- A resync pass is possible (R122); TIMEOUT's guard (R126). -/
def passPossible (s : State) : Bool :=
  decide (s.lstate = .active) && decide (s.syncState = .resync) && decide (s.syncTxRem = 0)

/-- RX_BYTE's guard and the pin rx_ready (R160). -/
def rxReady (s : State) : Bool :=
  decide (s.lstate ≠ .active) || decide (s.syncState = .synced) ||
    (decide (s.syncState = .resync) && decide (s.syncTxRem = 0))

/-- SND_DEQ's guard (R150). -/
def sndReady (s : State) : Bool :=
  decide (s.lstate = .active) && decide (s.sndState = .idle) && decide (0 < s.filledQ.length)

/-- SYNC_ACQ's guard (R102). -/
def syncReady (s : State) : Bool :=
  decide (s.lstate = .active) && decide (s.syncState = .waitGrant) && decide (s.owner = .none)

/-- Whether the sender's try is granted (R101). -/
def tryGranted (s : State) : Bool :=
  decide (s.owner = .none) && decide (s.syncState ≠ .waitGrant)

/-- An operation is enabled when its guard holds (R6 `require`); INIT, START and REG_READ have no guard (R170 to R172). -/
def enabled : Instr → State → Bool
  | .init, _ => true
  | .start, _ => true
  | .putFrame _, s => putReady s
  | .regRead _, _ => true
  | .rxByte _, s => rxReady s
  | .txByte, s => txValid s
  | .timeout, s => passPossible s
  | .sndDeq, s => sndReady s
  | .syncAcq, s => syncReady s

/-! ## Encodings of the control state in STATUS (R20, R37) -/

def Lifecycle.bits : Lifecycle → BitVec 2
  | .uninit => 0
  | .stopped => 1
  | .active => 2

def SyncState.bits : SyncState → BitVec 2
  | .synced => 0
  | .waitGrant => 1
  | .resync => 2

def Owner.bits : Owner → BitVec 2
  | .none => 0
  | .sender => 1
  | .sync => 2

/-- SND_BUSY: 1 iff SND_STATE = TX (R37). -/
def sndBusy (s : State) : Bool := decide (s.sndState = .tx)

/-- STATUS (R37). -/
def statusWord (s : State) : Reg :=
  s.sndIdx ++ s.tmoCnt ++ s.hitCnt ++ s.syncTxRem ++ s.rxCnt ++ BitVec.ofBool (putReady s) ++
    BitVec.ofBool (sndBusy s) ++ s.owner.bits ++ s.syncState.bits ++ s.lstate.bits

/-- CONFIG (R40). -/
def configWord (c : Config) : Reg :=
  BitVec.ofNat 8 frameSize ++ BitVec.ofNat 8 c.syncTimeoutThrs ++ BitVec.ofNat 8 c.nSlots ++ (0 : BitVec 5) ++
    BitVec.ofBool (decide (c.tmoCountMode = .timeoutOnly)) ++
    BitVec.ofBool (decide (c.syncHitMode = .contiguous)) ++
    BitVec.ofBool (decide (c.checksumAlg = .sum8))

/-- `RegRead`: the register selected by a byte address (R35 to R41); CTRL and the reserved addresses read 0. -/
def regRead (a : Byte) (s : State) : Reg :=
  match regIndex a with
  | 1 => statusWord s
  | 2 => BitVec.ofNat 32 s.freeQ.length
  | 3 => BitVec.ofNat 32 s.filledQ.length
  | 4 => s.stats.sent
  | 5 => s.stats.received
  | 6 => s.stats.lost
  | 7 => s.stats.syncTriggered
  | 8 => s.stats.syncTmoTicks
  | 9 => s.stats.syncFramesSent
  | 10 => configWord s.cfg
  | _ => 0

end Sys2Proof.Machine
end

