-- ==== Sys2Proof/Machine/Ops.lean ====
section
/-! DEFINITION. The named operations the nine meanings share: outcomes, statistics, the slot store, the FIFO primitives
(`43_frame_queue.md`), the transport (`41_serial_transport.md`), the receiver's buffer (`45_receiver.md`), and the entry to
and the return from a resync (`60_exceptions.md` R184, R185: the block's only "trap"). -/

namespace Sys2Proof.Machine

/-! ## Outcomes -/

/-- A held operation: its guard is false, the agent holds, nothing changes (R6 `require`, R8, U8 to U11, log 5). -/
def held (s : State) : Host.Outcome State Fault Refusal := .next s

/-- An operation's pseudocode either ends in a state or raises a ModelFault (R6). -/
def finish : Except Fault State → Host.Outcome State Fault Refusal
  | .ok s => .next s
  | .error f => .fault f

/-- `inc32` (R6): one more, modulo 2^32. -/
def inc32 (c : Reg) : Reg := c + 1

/-! ## Updates of the state, one for each line or group of lines of the rules' pseudocode -/

/-- INIT and START move the lifecycle (R170, R171). -/
def State.setLstate (s : State) (l : Lifecycle) : State := { s with lstate := l }

/-- REG_READ's result goes to the host (R70, R172). -/
def State.report (s : State) (v : Reg) : State := { s with rdOut := s.rdOut ++ [v] }

/-- `emit_tx(b)` (R6). -/
def State.emit (s : State) (b : Byte) : State := { s with txOut := s.txOut ++ [b] }

/-- Bytes written to the slot store from an address up (R50). -/
def State.storeSlots (s : State) (a : Nat) (bs : List Byte) : State := { s with slots := s.slots.writeBytes a bs }

/-- A new free FIFO. -/
def State.setFreeQ (s : State) (q : List SlotIx) : State := { s with freeQ := q }

/-- A new filled FIFO. -/
def State.setFilledQ (s : State) (q : List SlotIx) : State := { s with filledQ := q }

/-- A granted try: the sender owns the channel and holds the slot (R101, R150). -/
def State.beginTx (s : State) (v : SlotIx) : State :=
  { s with owner := .sender, sndState := .tx, sndSlot := v, sndIdx := 0 }

/-- The next byte of the slot (R104). -/
def State.advanceTx (s : State) : State := { s with sndIdx := s.sndIdx + 1 }

/-- After the frame's last byte: the sender is idle and the channel is released (R104). -/
def State.endTx (s : State) : State := { s with sndState := .idle, sndSlot := 0, sndIdx := 0, owner := .none }

/-- `inc32(STAT_SENT)` (R104). -/
def State.countSent (s : State) : State := { s with stats := { s.stats with sent := inc32 s.stats.sent } }

/-- `inc32(STAT_LOST)` (R150). -/
def State.countLost (s : State) : State := { s with stats := { s.stats with lost := inc32 s.stats.lost } }

/-- `inc32(STAT_RECEIVED)` (R161). -/
def State.countReceived (s : State) : State := { s with stats := { s.stats with received := inc32 s.stats.received } }

/-- The sync FSM takes the channel and queues one SyncFrame (R102, the lines before the statistics). -/
def State.grantSync (s : State) : State :=
  { s with owner := .sync, syncState := .resync, syncTxRem := 15, hitCnt := 0, tmoCnt := 0 }

/-- `inc32(STAT_SYNC_TRIGGERED)` (R102). -/
def State.countTriggered (s : State) : State :=
  { s with stats := { s.stats with syncTriggered := inc32 s.stats.syncTriggered } }

/-- `inc32(STAT_SYNC_FRAMES_SENT)` (R102, R125). -/
def State.countSyncFrame (s : State) : State :=
  { s with stats := { s.stats with syncFramesSent := inc32 s.stats.syncFramesSent } }

/-- One SyncFrame byte has left (R104). -/
def State.syncByteSent (s : State) : State := { s with syncTxRem := s.syncTxRem - 1 }

/-- A received byte put into RX_BUF at RX_CNT (R161). -/
def State.rxPut (s : State) (b : Byte) : State := { s with rxBuf := s.rxBuf.write s.rxCnt.toNat b }

/-- One more byte of the frame received (R161). -/
def State.rxAdvance (s : State) : State := { s with rxCnt := s.rxCnt + 1 }

/-- The frame is complete: RX_CNT returns to 0 (R161). -/
def State.rxRestart (s : State) : State := { s with rxCnt := 0 }

/-- A tick: TMO_CNT and its cumulative twin advance together (R123). -/
def State.tick (s : State) : State :=
  { s with tmoCnt := s.tmoCnt + 1, stats := { s.stats with syncTmoTicks := inc32 s.stats.syncTmoTicks } }

/-- A hit (R123). -/
def State.hit (s : State) : State := { s with hitCnt := s.hitCnt + 1 }

/-- A non-0xFF byte in CONTIGUOUS mode (R123). -/
def State.clearHits (s : State) : State := { s with hitCnt := 0 }

/-- Entry to a resync, the block's only "trap" (R162, R184): the channel is requested, nothing is saved. -/
def State.enterResync (s : State) : State := { s with syncState := .waitGrant }

/-- The return (R124 `terminate`, R185): both counters cleared, SYNCED, the channel released, frame assembly restarted. -/
def State.terminate (s : State) : State :=
  { s with hitCnt := 0, tmoCnt := 0, syncState := .synced, owner := .none, rxCnt := 0 }

/-- Another SyncFrame on the held channel; HIT_CNT is not reset (R125, its statistic apart). -/
def State.resendSync (s : State) : State := { s with syncTxRem := 15, tmoCnt := 0 }

/-- The byte timer of R127 set to a count. -/
def State.setTimer (s : State) (n : Nat) : State := { s with byteTimer := n }

/-- The pending inputs replaced. -/
def State.setInputs (s : State) (l : List Input) : State := { s with inputs := l }

/-! ## The slot store (R50) -/

/-- `MemWrite`, inside the slot store's N_SLOTS * 15 bytes. -/
def memWrite (a : Nat) (bs : List Byte) (s : State) : Except Fault State :=
  if a + bs.length ≤ s.cfg.nSlots * frameSize then .ok (s.storeSlots a bs) else .error .slotAddress

/-- `MemRead(addr, 1)`; an unwritten byte faults (R201). -/
def memRead (a : Nat) (s : State) : Except Fault Byte :=
  if a < s.cfg.nSlots * frameSize then
    match s.slots.read a with
    | some b => .ok b
    | none => .error .unwrittenSlotByte
  else .error .slotAddress

/-- stamp as PUT_FRAME uses it (R91, R140): the 14 body bytes, then the checksum as byte 14. -/
def stampSlot (v : SlotIx) (body : List Byte) (s : State) : Except Fault State := do
  let s ← memWrite (slotAddr v 0) body s
  memWrite (slotAddr v 14) [chk s.cfg.checksumAlg body] s

/-! ## FIFO primitives (R6, R141 to R144) -/

/-- `push` on a FIFO of capacity `cap`; a full FIFO, or an index already in it, is a ModelFault (R6, I3). -/
def push (cap : Nat) (q : List SlotIx) (v : SlotIx) : Except Fault (List SlotIx) :=
  if cap ≤ q.length then .error .fifoFull
  else if v ∈ q then .error .slotIndexTwice
  else .ok (q ++ [v])

/-- `pop`: the head and the rest; an empty FIFO is a ModelFault (R6). -/
def pop : List SlotIx → Except Fault (SlotIx × List SlotIx)
  | [] => .error .fifoEmpty
  | v :: q => .ok (v, q)

/-- `acquire_free()` (R141). -/
def acquireFree (s : State) : Except Fault (SlotIx × State) := do
  let (v, q) ← pop s.freeQ
  return (v, s.setFreeQ q)

/-- `enqueue_filled(s)` (R142). -/
def enqueueFilled (v : SlotIx) (s : State) : Except Fault State := do
  let q ← push s.cfg.nSlots s.filledQ v
  return s.setFilledQ q

/-- `dequeue_filled()` (R143). -/
def dequeueFilled (s : State) : Except Fault (SlotIx × State) := do
  let (v, q) ← pop s.filledQ
  return (v, s.setFilledQ q)

/-- `release_free(s)` (R144). -/
def releaseFree (v : SlotIx) (s : State) : Except Fault State := do
  let q ← push s.cfg.nSlots s.freeQ v
  return s.setFreeQ q

/-! ## The transmit stream (R103, R104) -/

/-- `txbyte(S)` (R103). -/
def txByteOf (s : State) : Except Fault (Option Byte) :=
  if s.owner = .sender ∧ s.sndState = .tx then do
    let b ← memRead (slotAddr s.sndSlot s.sndIdx.toNat) s
    return some b
  else if s.owner = .sync ∧ 0 < s.syncTxRem.toNat then .ok (some 0xFF)
  else .ok none

/-- TX_BYTE while the sender owns the channel (R104). -/
def txSenderByte (s : State) : Except Fault State := do
  let b ← memRead (slotAddr s.sndSlot s.sndIdx.toNat) s
  let s := s.emit b
  if s.sndIdx = 14 then do
    let s ← releaseFree s.sndSlot s.countSent
    return s.endTx
  else return s.advanceTx

/-- TX_BYTE while the sync FSM owns the channel (R104). -/
def txSyncByte (s : State) : State := (s.emit 0xFF).syncByteSent

/-! ## The resync pass (`42_sync_protocol.md` R122 to R125) -/

/-- Whether a pass with `b` is a tick (R123). -/
def isTick (c : Config) (b : Option Byte) : Bool :=
  decide (c.tmoCountMode = .everyPass) || decide (b = none)

/-- The counting step on HIT_CNT (R123). -/
def countHit (b : Option Byte) (s : State) : State :=
  match b with
  | none => s
  | some b =>
    if b = 0xFF then s.hit
    else if s.cfg.syncHitMode = .contiguous then s.clearHits
    else s

/-- `count(b)` (R123). -/
def countPass (b : Option Byte) (s : State) : State :=
  countHit b (if isTick s.cfg b then s.tick else s)

/-- `resend()` (R125). -/
def resend (s : State) : State := s.resendSync.countSyncFrame

/-- What a pass does after it has counted: terminate, else resend, else nothing more (R122). -/
def settlePass (s : State) : State :=
  if s.hitCnt.toNat = syncHits then s.terminate
  else if s.tmoCnt.toNat = s.cfg.syncTimeoutThrs then resend s
  else s

/-- `resync_pass(b)` (R122). -/
def resyncPass (b : Option Byte) (s : State) : State := settlePass (countPass b s)

/-! ## Frame assembly (`45_receiver.md` R161, R162) -/

/-- RX_BUF[RX_CNT] written; RX_BUF has the indices 0..14 (R29). -/
def rxStore (b : Byte) (s : State) : Except Fault State :=
  if s.rxCnt.toNat < frameSize then .ok (s.rxPut b) else .error .rxBufIndex

/-- The 15 bytes of RX_BUF; an unwritten one faults (R201). -/
def readFrame (s : State) : Except Fault (List Byte) :=
  match s.rxBuf.readBytes 0 frameSize with
  | some f => .ok f
  | none => .error .unwrittenRxByte

/-- What the fifteenth byte does: verify, then count the frame or enter a resync (R161, R162). -/
def checkFrame (s : State) : Except Fault State := do
  let f ← readFrame s
  if verify s.cfg.checksumAlg f then return s.countReceived else return s.enterResync

/-- `rx_frame_byte(b)` (R161). -/
def rxFrameByte (b : Byte) (s : State) : Except Fault State := do
  let s ← rxStore b s
  if s.rxCnt.toNat < bodySize then return s.rxAdvance
  else checkFrame s.rxRestart

end Sys2Proof.Machine
end

