-- ==== Sys2Proof/Machine/Control.lean ====
section
/-! DEFINITION. Lifecycle control and the statistics interface: INIT, START, REG_READ (`46_control.md`). -/

namespace Sys2Proof.Machine

/-- INIT (R170): UNINIT to STOPPED, otherwise no effect. -/
def execInit (s : State) : Host.Outcome State Fault Refusal :=
  .next (if s.lstate = .uninit then s.setLstate .stopped else s)

/-- START (R171): STOPPED to ACTIVE, otherwise no effect. -/
def execStart (s : State) : Host.Outcome State Fault Refusal :=
  .next (if s.lstate = .stopped then s.setLstate .active else s)

/-- REG_READ (R172): the register's value is the result; no state of the block changes. -/
def execRegRead (a : Byte) (s : State) : Host.Outcome State Fault Refusal :=
  .next (s.report (regRead a s))

end Sys2Proof.Machine
end

