-- ==== Sys2Proof/Machine/Queue.lean ====
section
/-! DEFINITION. The frame queue: PUT_FRAME (`43_frame_queue.md`). -/

namespace Sys2Proof.Machine

/-- The pseudocode of R140 behind its guard. -/
def putFrameBody (d : PutData) (s : State) : Except Fault State := do
  let (v, s) ← acquireFree s
  let s ← stampSlot v (bodyBytes d) s
  enqueueFilled v s

/-- PUT_FRAME (R140): acquire a free slot, store the body, stamp it, enqueue it; held while put_ready is 0. -/
def execPutFrame (d : PutData) (s : State) : Host.Outcome State Fault Refusal :=
  if putReady s then finish (putFrameBody d s) else held s

end Sys2Proof.Machine
end

