-- ==== Sys2Proof/Machine/Receiver.lean ====
section
/-! DEFINITION. The receiver engine: RX_BYTE (`45_receiver.md`). -/

namespace Sys2Proof.Machine

/-- RX_BYTE (R160): outside ACTIVE the byte is discarded (R164), in SYNCED it is a frame byte (R161), in RESYNC it is a
resync pass (R163); held while rx_ready is 0. -/
def execRxByte (b : Byte) (s : State) : Host.Outcome State Fault Refusal :=
  if rxReady s then
    if s.lstate ≠ .active then .next s
    else if s.syncState = .synced then finish (rxFrameByte b s)
    else .next (resyncPass (some b) s)
  else held s

end Sys2Proof.Machine
end

