-- ==== Sys2Proof/Machine/Sender.lean ====
section
/-! DEFINITION. The sender engine: SND_DEQ (`44_sender.md`). -/

namespace Sys2Proof.Machine

/-- The pseudocode of R150 behind its guard. -/
def sndDeqBody (s : State) : Except Fault State := do
  let (v, s) ← dequeueFilled s
  if tryGranted s then return s.beginTx v
  else releaseFree v s.countLost

/-- SND_DEQ (R150): dequeue one filled slot and try the channel; held while it is not enabled. -/
def execSndDeq (s : State) : Host.Outcome State Fault Refusal :=
  if sndReady s then finish (sndDeqBody s) else held s

end Sys2Proof.Machine
end

