-- ==== Sys2Proof/Machine/Sync.lean ====
section
/-! DEFINITION. The resynchronization FSM: TIMEOUT (`42_sync_protocol.md`). -/

namespace Sys2Proof.Machine

/-- TIMEOUT (R126): one resync read that ended without a byte; held while no pass is possible. -/
def execTimeout (s : State) : Host.Outcome State Fault Refusal :=
  if passPossible s then .next (resyncPass none s) else held s

end Sys2Proof.Machine
end

