-- ==== Sys2Proof/Machine/Transport.lean ====
section
/-! DEFINITION. The transport arbiter and the transmit multiplexer: SYNC_ACQ and TX_BYTE (`41_serial_transport.md`). -/

namespace Sys2Proof.Machine

/-- SYNC_ACQ (R102): the sync FSM's blocking acquire and the first SyncFrame of a resync; held while it is not enabled. -/
def execSyncAcq (s : State) : Host.Outcome State Fault Refusal :=
  if syncReady s then .next s.grantSync.countTriggered.countSyncFrame else held s

/-- TX_BYTE (R104): the line accepts the owner's byte; held while no byte is offered. -/
def execTxByte (s : State) : Host.Outcome State Fault Refusal :=
  if txValid s then
    if s.owner = .sender then finish (txSenderByte s) else .next (txSyncByte s)
  else held s

end Sys2Proof.Machine
end

