-- ==== Sys2Proof/Machine/Dispatch.lean ====
section
/-! DEFINITION. The meaning of every operation of `spec/opcode_table.json`, one arm each. -/

namespace Sys2Proof.Machine

def exec (i : Instr) (s : State) : Host.Outcome State Fault Refusal :=
  match i with
  | .init => Sys2Proof.Machine.execInit s
  | .start => Sys2Proof.Machine.execStart s
  | .putFrame d => Sys2Proof.Machine.execPutFrame d s
  | .regRead a => Sys2Proof.Machine.execRegRead a s
  | .rxByte b => Sys2Proof.Machine.execRxByte b s
  | .txByte => Sys2Proof.Machine.execTxByte s
  | .timeout => Sys2Proof.Machine.execTimeout s
  | .sndDeq => Sys2Proof.Machine.execSndDeq s
  | .syncAcq => Sys2Proof.Machine.execSyncAcq s

end Sys2Proof.Machine
end

