-- ==== Sys2Proof/Machine/Clock.lean ====
section
/-! DEFINITION. The pin-level rendering: output pins (`10_state.md` R26, R27), one rising clock edge (`70_reset_and_hazards.md`
R200, R205) and the byte timer (`42_sync_protocol.md` R127). -/

namespace Sys2Proof.Machine

/-! ## Output pins -/

/-- The output pins of R26. `txData` is a value only while tx_valid is 1. -/
structure Pins where
  putReady : Bool
  txValid : Bool
  txData : Option Byte
  rxReady : Bool
  regRdata : Reg
  deriving DecidableEq, Repr

/-- tx_data: the byte TX_BYTE would emit while tx_valid is 1 (R27, R103). -/
def txData (s : State) : Option Byte :=
  if txValid s then
    match txByteOf s with
    | .ok b => b
    | .error _ => none
  else none

/-- The output pins as functions of the state (R27). -/
def pinsOf (regAddr : Byte) (s : State) : Pins where
  putReady := putReady s
  txValid := txValid s
  txData := txData s
  rxReady := rxReady s
  regRdata := regRead regAddr s

/-- Every field at its reset value (R200); the instance keeps its parameters and the schedule goes on. -/
def resetEdge (s : State) : State := (State.resetWith s.cfg).setInputs s.inputs

/-- The output pins in a cycle: "While rst_n is 0 the outputs are those of the reset state" (R200). -/
def outputs (c : ClockCycle) (s : State) : Pins :=
  pinsOf c.regAddr (if c.rstN then s else resetEdge s)

/-! ## Transfers and the byte timer, all from the state before the edge -/

/-- A put transfer: valid and ready both 1 (R27). -/
def putXfer (c : ClockCycle) (s : State) : Bool := c.putValid && putReady s

/-- A tx transfer (R27). -/
def txXfer (c : ClockCycle) (s : State) : Bool := c.txReady && txValid s

/-- An rx transfer (R27). -/
def rxXfer (c : ClockCycle) (s : State) : Bool := c.rxValid && rxReady s

/-- The timer expires in this cycle: it advances, as a pass is possible and no rx transfer happens, and reaches
BYTE_TIMEOUT_CYCLES (R127; a transfer in the same cycle wins). -/
def timerExpires (c : ClockCycle) (s : State) : Bool :=
  passPossible s && !rxXfer c s && decide (s.cfg.byteTimeoutCycles ≤ s.byteTimer + 1)

/-- The timer after the cycle (R127): 0 while no pass is possible and after every pass, else one more. -/
def nextTimer (c : ClockCycle) (s : State) : Nat :=
  if passPossible s && !rxXfer c s && !timerExpires c s then s.byteTimer + 1 else 0

/-! ## The same-cycle order (R205) -/

/-- The operations of one cycle in R205's order: REG_READ; INIT or START; SYNC_ACQ; TX_BYTE; RX_BYTE or TIMEOUT; SND_DEQ;
PUT_FRAME. An engine's operation stands in the list when its engine acts in this cycle. -/
def cycleOps (c : ClockCycle) (s : State) : List Instr :=
  (if c.regRd then [.regRead c.regAddr] else []) ++
  (if c.regWr then (ctrlCommand c.regAddr c.regWdata).toList else []) ++
  (if c.syncGo then [.syncAcq] else []) ++
  (if txXfer c s then [.txByte] else []) ++
  (if rxXfer c s then [.rxByte c.rxData] else if timerExpires c s then [.timeout] else []) ++
  (if c.sndGo then [.sndDeq] else []) ++
  (if putXfer c s then [.putFrame c.putData] else [])

/-- Operations performed one at a time, in order (R205). -/
def execAll : List Instr → State → Host.Outcome State Fault Refusal
  | [], s => .next s
  | i :: is, s =>
    match exec i s with
    | .next t => execAll is t
    | .fault f => .fault f
    | .refused r => .refused r

/-- One rising edge of `clk` (R200, R205): reset overrides everything; otherwise the cycle's operations and the timer. -/
def clockEdge (c : ClockCycle) (s : State) : Host.Outcome State Fault Refusal :=
  if c.rstN then execAll (cycleOps c s) (s.setTimer (nextTimer c s)) else .next (resetEdge s)

end Sys2Proof.Machine
end

