-- ==== Sys2Proof/WellFormed.lean ====
section
/-! DEFINITION. The checks on what the block is given: a configuration inside R4's legal values, a trace line that is a
defined label with its operand (R70, R72, R74). An `Instr` needs no check: its types admit exactly the operands of R71. -/

namespace Sys2Proof

/-- R4: every parameter in its legal-values column; "a model refuses a configuration outside it". -/
def Config.wf (c : Config) : Bool :=
  decide (1 ≤ c.nSlots) && decide (c.nSlots ≤ 255) && decide (1 ≤ c.syncTimeoutThrs)
    && decide (c.syncTimeoutThrs ≤ 255) && decide (1 ≤ c.byteTimeoutCycles)

/-- R72: the operation codes 0x1 to 0x9 are defined, 0x0 and 0xA to 0xF are reserved. -/
def TraceLine.opcDefined (t : TraceLine) : Bool :=
  decide (1 ≤ t.label.toNat / 4096) && decide (t.label.toNat / 4096 ≤ 9)

/-- R70: field A, bits [11:8], "must be 0 in every defined label". -/
def TraceLine.aZero (t : TraceLine) : Bool :=
  decide (t.label.toNat / 256 % 16 = 0)

/-- R70: field D, bits [7:0], is 0 for every operation but REG_READ (0x4) and RX_BYTE (0x5). -/
def TraceLine.dLegal (t : TraceLine) : Bool :=
  decide (t.label.toNat / 4096 = 4) || decide (t.label.toNat / 4096 = 5) || decide (t.label.toNat % 256 = 0)

/-- R76: a 14-byte body accompanies OPC 0x3 and "no other label has an operand outside L" (R70). -/
def TraceLine.operandFits (t : TraceLine) : Bool :=
  decide (t.operand.length = if t.label.toNat / 4096 = 3 then bodySize else 0)

/-- A trace line that names an operation instance. -/
def TraceLine.wf (t : TraceLine) : Bool :=
  t.opcDefined && t.aZero && t.dLegal && t.operandFits

end Sys2Proof
end

