-- ==== Sys2Proof/Machine/Fetch.lean ====
section
/-! DEFINITION. What one pending input does: a label is decoded and performed (`30_encoding.md` R72, R74), a clock edge is
taken. Also a trace as pending inputs, and the pseudo-operations and trace syntax of R77 and R78. -/

namespace Sys2Proof.Machine

/-- A reserved label names no operation: "A model refuses a trace that contains one" (R74). -/
def rejection : DecodeError → Refusal
  | .reservedOpcode => .reservedOpcode
  | .reservedA => .reservedA
  | .reservedD => .reservedD
  | .operandLength => .operandLength

/-- A trace line decoded and performed. -/
def runLabel (t : TraceLine) (s : State) : Host.Outcome State Fault Refusal :=
  match decode t with
  | .ok i => exec i s
  | .error e => .refused (rejection e)

/-- One pending input taken. -/
def runInput : Input → State → Host.Outcome State Fault Refusal
  | .label t, s => runLabel t s
  | .cycle c, s => clockEdge c s

/-- The next pending input, taken off the schedule and run; with nothing pending nothing happens (R75). -/
def runNext (s : State) : Host.Outcome State Fault Refusal :=
  match s.inputs with
  | [] => .next s
  | x :: rest => runInput x (s.setInputs rest)

/-- The table word of a row placed as the next input. -/
def placeWord (s : State) (nbits w : Nat) : State :=
  s.setInputs (.label (TraceLine.ofTableWord nbits w) :: s.inputs)

/-- A list of operations as pending inputs. -/
def traceOf (is : List Instr) : List Input := is.map (fun i => .label (encode i))

/-! ## Pseudo-operations (R78) and the trace syntax (R77) -/

/-- The pseudo-operations of R78. -/
inductive Pseudo
  | rxFrame (bytes : List Byte)
  | rxRepeat (b : Byte) (n : Nat)
  | rxSync
  | txFrame
  | timeouts (n : Nat)
  | send
  deriving DecidableEq, Repr

/-- The expansion of a pseudo-operation started in state `s` (R78); SEND's TX_FRAME follows only a granted try. -/
def expand (s : State) : Pseudo → List Instr
  | .rxFrame bytes => bytes.map .rxByte
  | .rxRepeat b n => List.replicate n (.rxByte b)
  | .rxSync => List.replicate 15 (.rxByte 0xFF)
  | .txFrame => List.replicate 15 .txByte
  | .timeouts n => List.replicate n .timeout
  | .send => .sndDeq :: (if tryGranted s then List.replicate 15 .txByte else [])

/-- A hexadecimal digit. -/
def hexDigit (n : Nat) : Char := if n < 10 then Char.ofNat (48 + n) else Char.ofNat (55 + n)

/-- "Bytes and addresses are two hex digits without prefix" (R77). -/
def hexByte (b : Byte) : String := String.ofList [hexDigit (b.toNat / 16), hexDigit (b.toNat % 16)]

/-- One operation as a line of a trace (R77). -/
def traceText : Instr → String
  | .init => "INIT"
  | .start => "START"
  | .putFrame d => (bodyBytes d).foldl (fun t b => t ++ " " ++ hexByte b) "PUT_FRAME"
  | .regRead a => "REG_READ " ++ hexByte a
  | .rxByte b => "RX_BYTE " ++ hexByte b
  | .txByte => "TX_BYTE"
  | .timeout => "TIMEOUT"
  | .sndDeq => "SND_DEQ"
  | .syncAcq => "SYNC_ACQ"

end Sys2Proof.Machine
end

