-- ==== Sys2Proof/Machine/Step.lean ====
section
/-! DEFINITION. One step: the next pending input of the schedule, on an instance whose parameters are legal. -/

namespace Sys2Proof.Machine

/-- One step of the block (R8): one pending input, taken atomically; a configuration outside R4 is refused. -/
def step (s : State) : Host.Outcome State Fault Refusal :=
  if s.cfg.wf then runNext s else .refused .illegalConfig

/-- The state in which the next step runs the table word `w` (log 4). -/
def State.withFetchWord (s : State) (nbits w : Nat) : State := placeWord s nbits w

end Sys2Proof.Machine
end

