-- ==== Sys2Proof/Safety.lean ====
section
/-! DEFINITION. What counts as a safe run: a performed operation, the legal states, reachability, and the shape of the
transmit stream, in the terms the claims use. -/

namespace Sys2Proof.Machine

/-! ## Runs -/

/-- One labelled step: an operation is performed when it is enabled (R6 `require`, R8). -/
def Performed (i : Instr) (s t : State) : Prop := enabled i s = true ∧ exec i s = .next t

/-- Operations performed one after another, each enabled when performed (R205). -/
def PerformedAll : List Instr → State → State → Prop
  | [], s, t => s = t
  | i :: is, s, t => ∃ u, Performed i s u ∧ PerformedAll is u t

/-- The place of an operation in R205's same-cycle order; two operations of one place never share a cycle. -/
def cycleRank : Instr → Nat
  | .regRead _ => 0
  | .init => 1
  | .start => 1
  | .syncAcq => 2
  | .txByte => 3
  | .rxByte _ => 4
  | .timeout => 4
  | .sndDeq => 5
  | .putFrame _ => 6

/-- The states an instance with parameters `c` reaches from reset under some schedule of inputs. -/
inductive Reachable (c : Config) : State → Prop
  | reset (l : List Input) : Reachable c ((State.resetWith c).setInputs l)
  | step {s t : State} : Reachable c s → step s = .next t → Reachable c t

/-! ## Slots -/

/-- The slot the sender holds while it transmits (R65). -/
def inFlight (s : State) : List SlotIx := if s.sndState = .tx then [s.sndSlot] else []

/-- Every place a slot index can be (R65). -/
def allSlots (s : State) : List SlotIx := s.freeQ ++ s.filledQ ++ inFlight s

/-- R65: the three lengths add up to N_SLOTS and every index 0..N_SLOTS-1 occurs exactly once; and no other index occurs
(R20's legal values). -/
structure Conserved (s : State) : Prop where
  total : s.freeQ.length + s.filledQ.length + (if s.sndState = .tx then 1 else 0) = s.cfg.nSlots
  once : ∀ k, k < s.cfg.nSlots → (allSlots s).count (BitVec.ofNat 8 k) = 1
  inRange : ∀ v ∈ allSlots s, v.toNat < s.cfg.nSlots

/-- The 15 bytes of a slot, none while one is unwritten (R22). -/
def slotFrame (s : State) (v : SlotIx) : Option (List Byte) := s.slots.readBytes (slotAddr v 0) frameSize

/-- Every slot in FILLED_Q or held by the sender holds a whole frame that verifies (R22, R64, R93). -/
def SlotsStamped (s : State) : Prop :=
  ∀ v ∈ s.filledQ ++ inFlight s, ∃ f, slotFrame s v = some f ∧ verify s.cfg.checksumAlg f = true

/-! ## Control state -/

/-- The sender and the channel: the sender owns the channel exactly while it transmits, an idle sender's registers are 0
(R25, R28, R150). -/
structure SenderLegal (s : State) : Prop where
  owns : s.owner = .sender ↔ s.sndState = .tx
  idle : s.sndState = .idle → s.sndSlot = 0 ∧ s.sndIdx = 0
  idx : s.sndIdx.toNat ≤ 14

/-- The sync FSM (R29 to R33): it owns the channel exactly in RESYNC, its counters stay in their legal values and are 0
outside RESYNC, and no frame is being assembled outside SYNCED. -/
structure SyncLegal (s : State) : Prop where
  owns : s.owner = .sync ↔ s.syncState = .resync
  outside : s.syncState ≠ .resync → s.syncTxRem = 0 ∧ s.hitCnt = 0 ∧ s.tmoCnt = 0
  hits : s.hitCnt.toNat ≤ 14
  ticks : s.tmoCnt.toNat < s.cfg.syncTimeoutThrs
  rxCnt : s.rxCnt.toNat ≤ 14
  rxCntZero : s.syncState ≠ .synced → s.rxCnt = 0

/-- The two byte stores keep their canonical form and their bounds (R29, R50). -/
structure StoresLegal (s : State) : Prop where
  slotsWf : s.slots.wf
  rxBufWf : s.rxBuf.wf
  slotsBound : ∀ x ∈ s.slots, x.1 < s.cfg.nSlots * frameSize
  rxBufBound : ∀ x ∈ s.rxBuf, x.1 < frameSize

/-- RX_BUF is written below RX_CNT (R29). -/
def RxWritten (s : State) : Prop := ∀ i, i < s.rxCnt.toNat → (s.rxBuf.read i).isSome

/-- Outside ACTIVE every field but LSTATE (and the model's own lists) holds its reset value (R170, R203). -/
def DormantUntilActive (s : State) : Prop :=
  s.lstate ≠ .active →
    s = { State.resetWith s.cfg with lstate := s.lstate, inputs := s.inputs, rdOut := s.rdOut }

/-- The byte timer stays below BYTE_TIMEOUT_CYCLES (R127). -/
def TimerLegal (s : State) : Prop := s.byteTimer < s.cfg.byteTimeoutCycles

/-- The legal states: what every state between operations satisfies. -/
structure Legal (s : State) : Prop where
  cfg : s.cfg.wf = true
  slots : Conserved s
  stamped : SlotsStamped s
  sender : SenderLegal s
  sync : SyncLegal s
  stores : StoresLegal s
  rxWritten : RxWritten s
  dormant : DormantUntilActive s
  timer : TimerLegal s

/-! ## The transmit stream (R62, R105, R131) -/

/-- An item of the transmit stream: a sender frame, or a SyncFrame. -/
inductive TxItem
  | frame (bytes : List Byte)
  | sync
  deriving DecidableEq, Repr

/-- The bytes of an item. -/
def TxItem.bytes : TxItem → List Byte
  | .frame f => f
  | .sync => syncFrame

/-- An item is whole: a frame has 15 bytes and verifies; a SyncFrame always is. -/
def TxItem.whole (alg : ChecksumAlg) : TxItem → Prop
  | .frame f => f.length = frameSize ∧ verify alg f = true
  | .sync => True

/-- Whether an item is a sender frame. -/
def TxItem.isFrame : TxItem → Bool
  | .frame _ => true
  | .sync => false

/-- The bytes of the item the channel's owner has begun (R104): the sender's frame up to SND_IDX, the SyncFrame up to
15 - SYNC_TX_REM. -/
def begun (s : State) : List Byte :=
  match s.owner with
  | .none => []
  | .sender => ((slotFrame s s.sndSlot).getD []).take s.sndIdx.toNat
  | .sync => List.replicate (frameSize - s.syncTxRem.toNat) 0xFF

/-- R105: everything emitted since reset is whole items and then what the owner has begun; STAT_SENT counts the frames and
STAT_SYNC_FRAMES_SENT the SyncFrames, the one under way included (R34, R131). -/
def WholeFrames (s : State) : Prop :=
  ∃ items : List TxItem,
    (∀ x ∈ items, x.whole s.cfg.checksumAlg) ∧
    s.txOut = (items.map TxItem.bytes).flatten ++ begun s ∧
    s.stats.sent = BitVec.ofNat 32 (items.countP TxItem.isFrame) ∧
    s.stats.syncFramesSent =
      BitVec.ofNat 32 (items.countP (fun x => !x.isFrame) + if s.owner = .sync then 1 else 0)

end Sys2Proof.Machine
end

