-- ==== Sys2Proof/Certificates/Slice0/Obligations.lean ====
section
/-! DEFINITION. The statements about the frame link block, each from numbered rules of `spec/`.
A result equation `exec i s = .next { s with … }` is also the operation's frame: every field it does not name is unchanged.
`txOut` and `rdOut` record what the spec calls an operation's result (R70; log 6). -/

open Sys2Proof Sys2Proof.Machine

/-! ## Encoding -/

/-- R70 to R72: no bit of a label or of a body is dropped by encoding. -/
def Obligations.DecodeEncodeRoundTrip : Prop := ∀ i : Instr, decode (encode i) = .ok i

/-- R70, R72, R74, R76: the decoder accepts exactly the defined labels with their operand, and each accepted line is the
encoding of the operation it is read as (so no two labels name one operation instance). -/
def Obligations.DecodeAcceptsExactlyDefinedLabels : Prop :=
  ∀ t : TraceLine, (t.wf = true ↔ ∃ i, decode t = .ok i) ∧ ∀ i, decode t = .ok i → encode i = t

/-- R72, R77: labels written out from the table. -/
def Obligations.SpecWordsDecode : Prop :=
  decode ⟨0x1000, []⟩ = .ok .init ∧ decode ⟨0x2000, []⟩ = .ok .start ∧
  decode ⟨0x3000, [0x00, 0x05, 0x11, 0x11, 0x11, 0x11, 0x11, 0x11, 0x11, 0x11, 0x11, 0x11, 0x11, 0x22]⟩ =
    .ok (.putFrame 0x2211111111111111111111110500) ∧
  decode ⟨0x4028, []⟩ = .ok (.regRead 0x28) ∧ decode ⟨0x50FF, []⟩ = .ok (.rxByte 0xFF) ∧
  decode ⟨0x6000, []⟩ = .ok .txByte ∧ decode ⟨0x7000, []⟩ = .ok .timeout ∧
  decode ⟨0x8000, []⟩ = .ok .sndDeq ∧ decode ⟨0x9000, []⟩ = .ok .syncAcq

/-- R74: a label with OPC 0x0 or 0xA to 0xF, with A not 0, or with D not 0 for an OPC other than 0x4 and 0x5 names no
operation, is the label of none, and a trace that contains it is refused. -/
def Obligations.ReservedLabelRefused : Prop :=
  ∀ (t : TraceLine), (t.label.toNat / 4096 = 0 ∨ 10 ≤ t.label.toNat / 4096 ∨ t.label.toNat / 256 % 16 ≠ 0 ∨
      (t.label.toNat % 256 ≠ 0 ∧ t.label.toNat / 4096 ≠ 4 ∧ t.label.toNat / 4096 ≠ 5)) →
    (∀ i, labelOf i ≠ t.label) ∧
    ∀ (s : State) (rest : List Input), s.cfg.wf = true → s.inputs = .label t :: rest →
      step s = .refused .reservedOpcode ∨ step s = .refused .reservedA ∨ step s = .refused .reservedD

/-! ## Steps -/

/-- A step performs the operation its label decodes to, on the state with that label taken off the schedule (log 4). -/
def Obligations.StepPerformsDecodedLabel : Prop :=
  ∀ (s : State) (t : TraceLine) (rest : List Input) (i : Instr), s.cfg.wf = true → s.inputs = .label t :: rest →
    decode t = .ok i → step s = exec i { s with inputs := rest }

/-- A step on a clock edge takes that edge. -/
def Obligations.StepTakesClockEdge : Prop :=
  ∀ (s : State) (c : ClockCycle) (rest : List Input), s.cfg.wf = true → s.inputs = .cycle c :: rest →
    step s = clockEdge c { s with inputs := rest }

/-- R4: a configuration outside the legal values is refused; with nothing pending a legal instance does not change (R75).
That an empty schedule idles is the model's choice (log 4). -/
def Obligations.ConfigCheckedThenIdle : Prop :=
  ∀ s : State,
    (¬ (1 ≤ s.cfg.nSlots ∧ s.cfg.nSlots ≤ 255 ∧ 1 ≤ s.cfg.syncTimeoutThrs ∧ s.cfg.syncTimeoutThrs ≤ 255 ∧
        1 ≤ s.cfg.byteTimeoutCycles) → step s = .refused .illegalConfig) ∧
    (s.cfg.wf = true → s.inputs = [] → step s = .next s)

/-- A trace placed on the schedule (the model's own field, log 4) runs as its operations one after another (R8, R61).
`execAll` carries an operation whose guard is false through as an unchanged step, the model's rendering of holding (log 5). -/
def Obligations.TraceRunsItsOperations : Prop :=
  ∀ (is : List Instr) (rest : List Input) (s t : State), s.cfg.wf = true → execAll is s = .next t →
    Host.Core.run Sys2Proof.core is.length (s.setInputs (traceOf is ++ rest)) = .next (t.setInputs rest)

/-- An operation whose guard is false leaves the whole state as it is: the agent holds (R6, R8, U8, U10, U11).
That the model answers this by an unchanged next state is its choice (log 5). -/
def Obligations.HeldOperationChangesNothing : Prop :=
  ∀ (i : Instr) (s : State), enabled i s = false → exec i s = .next s

/-! ## Lifecycle and registers -/

/-- R170. -/
def Obligations.InitMovesUninitToStopped : Prop :=
  ∀ s : State, enabled .init s = true ∧
    (s.lstate = .uninit → exec .init s = .next { s with lstate := .stopped }) ∧
    (s.lstate ≠ .uninit → exec .init s = .next s)

/-- R171. -/
def Obligations.StartMovesStoppedToActive : Prop :=
  ∀ s : State, enabled .start s = true ∧
    (s.lstate = .stopped → exec .start s = .next { s with lstate := .active }) ∧
    (s.lstate ≠ .stopped → exec .start s = .next s)

/-- R172 with R35, R38, R39: REG_READ returns the register at D with D[1:0] ignored, in every lifecycle state, and changes
nothing but the model's result list (log 6). STATUS and CONFIG have statements of their own. -/
def Obligations.RegReadReturnsRegister : Prop :=
  ∀ (a : Byte) (s : State), enabled (.regRead a) s = true ∧
    ∃ v : Reg, exec (.regRead a) s = .next { s with rdOut := s.rdOut ++ [v] } ∧
      (a.toNat / 4 = 0 → v = 0) ∧
      (a.toNat / 4 = 1 → v = statusWord s) ∧
      (a.toNat / 4 = 2 → v = BitVec.ofNat 32 s.freeQ.length) ∧
      (a.toNat / 4 = 3 → v = BitVec.ofNat 32 s.filledQ.length) ∧
      (a.toNat / 4 = 4 → v = s.stats.sent) ∧
      (a.toNat / 4 = 5 → v = s.stats.received) ∧
      (a.toNat / 4 = 6 → v = s.stats.lost) ∧
      (a.toNat / 4 = 7 → v = s.stats.syncTriggered) ∧
      (a.toNat / 4 = 8 → v = s.stats.syncTmoTicks) ∧
      (a.toNat / 4 = 9 → v = s.stats.syncFramesSent) ∧
      (a.toNat / 4 = 10 → v = configWord s.cfg) ∧
      (11 ≤ a.toNat / 4 → v = 0)

/-- R37: STATUS stands at 0x04, every field at its bits, no two-bit field ever 3, and the word at reset 0. -/
def Obligations.StatusFields : Prop :=
  (∀ (a : Byte) (s : State), a.toNat / 4 = 1 → regRead a s = statusWord s) ∧
  (∀ s : State,
    (statusWord s).extractLsb' 0 2 = (match s.lstate with | .uninit => 0 | .stopped => 1 | .active => 2) ∧
    (statusWord s).extractLsb' 2 2 = (match s.syncState with | .synced => 0 | .waitGrant => 1 | .resync => 2) ∧
    (statusWord s).extractLsb' 4 2 = (match s.owner with | .none => 0 | .sender => 1 | .sync => 2) ∧
    ((statusWord s).getLsbD 6 = true ↔ s.sndState = .tx) ∧
    ((statusWord s).getLsbD 7 = true ↔ s.lstate = .active ∧ 0 < s.freeQ.length) ∧
    (statusWord s).extractLsb' 8 4 = s.rxCnt ∧
    (statusWord s).extractLsb' 12 4 = s.syncTxRem ∧
    (statusWord s).extractLsb' 16 4 = s.hitCnt ∧
    (statusWord s).extractLsb' 20 8 = s.tmoCnt ∧
    (statusWord s).extractLsb' 28 4 = s.sndIdx) ∧
  ∀ c : Config, statusWord (State.resetWith c) = 0

/-- R40: CONFIG stands at 0x28, no step changes it, every field is at its bits, and the word of the reference instance. -/
def Obligations.ConfigFields : Prop :=
  (∀ s t : State, step s = .next t → configWord t.cfg = configWord s.cfg) ∧
  (∀ (a : Byte) (s : State), a.toNat / 4 = 10 → regRead a s = configWord s.cfg) ∧
  (∀ c : Config, c.wf = true →
    ((configWord c).getLsbD 0 = true ↔ c.checksumAlg = .sum8) ∧
    ((configWord c).getLsbD 1 = true ↔ c.syncHitMode = .contiguous) ∧
    ((configWord c).getLsbD 2 = true ↔ c.tmoCountMode = .timeoutOnly) ∧
    (configWord c).extractLsb' 3 5 = 0 ∧
    ((configWord c).extractLsb' 8 8).toNat = c.nSlots ∧
    ((configWord c).extractLsb' 16 8).toNat = c.syncTimeoutThrs ∧
    ((configWord c).extractLsb' 24 8).toNat = 15) ∧
  configWord Config.default = 0x0F646100

/-- R36, R41: a register write is INIT at 0x00-0x03 with CMD 1, START with CMD 2, and otherwise changes no state: on a clock
edge on which only reg_wr is up and no pass is possible, that command is all that happens.
That the byte timer rests at 0 on such an edge is the model's reading (log 7), the engines' bits are its own (log 8).
A CTRL write while a pass is possible or with another port moving: the clauses on INIT and START of
ClockEdgeIsLabelledSteps. -/
def Obligations.RegisterWriteIsCommand : Prop :=
  ∀ (c : ClockCycle) (s : State), c.rstN = true → c.regWr = true → c.regRd = false → c.putValid = false → c.txReady = false →
    c.rxValid = false → c.syncGo = false → c.sndGo = false → passPossible s = false →
    (c.regAddr.toNat < 4 → c.regWdata.toNat % 4 = 1 → clockEdge c s = exec .init { s with byteTimer := 0 }) ∧
    (c.regAddr.toNat < 4 → c.regWdata.toNat % 4 = 2 → clockEdge c s = exec .start { s with byteTimer := 0 }) ∧
    (¬ c.regAddr.toNat < 4 ∨ (c.regWdata.toNat % 4 ≠ 1 ∧ c.regWdata.toNat % 4 ≠ 2) →
      clockEdge c s = .next { s with byteTimer := 0 })

/-- R22, R42: no register shows the slot store or RX_BUF. -/
def Obligations.RegistersHideStores : Prop :=
  ∀ (a : Byte) (s : State) (m n : Memory), regRead a { s with slots := m, rxBuf := n } = regRead a s

/-- R21: LSTATE changes only by INIT, START and reset; the engines, PUT_FRAME, TX_BYTE and TIMEOUT require ACTIVE. -/
def Obligations.LifecycleOnlyMovesForward : Prop :=
  (∀ (i : Instr) (s t : State), exec i s = .next t → t.lstate = s.lstate ∨
    (i = .init ∧ s.lstate = .uninit ∧ t.lstate = .stopped) ∨ (i = .start ∧ s.lstate = .stopped ∧ t.lstate = .active)) ∧
  (∀ (i : Instr) (s : State), enabled i s = true → s.lstate = .active ∨ i = .init ∨ i = .start ∨
    (∃ a, i = .regRead a) ∨ ∃ b, i = .rxByte b ∧ exec i s = .next s) ∧
  ∀ (c : ClockCycle) (s t : State), clockEdge c s = .next t →
    (c.rstN = false → t.lstate = .uninit) ∧ (c.rstN = true → s.lstate = .active → t.lstate = .active)

/-! ## Statistics -/

/-- R34: each statistics counter is incremented by its one writer and otherwise unchanged. -/
def Obligations.CountersHaveOneWriter : Prop :=
  ∀ (i : Instr) (s t : State), exec i s = .next t →
    (t.stats.sent = s.stats.sent ∨ (t.stats.sent = s.stats.sent + 1 ∧ i = .txByte ∧ s.owner = .sender ∧ s.sndIdx = 14)) ∧
    (i = .txByte → s.lstate = .active → s.owner = .sender → s.sndState = .tx → s.sndIdx = 14 →
      t.stats.sent = s.stats.sent + 1) ∧
    (t.stats.received = s.stats.received ∨
      (t.stats.received = s.stats.received + 1 ∧ (∃ b, i = .rxByte b) ∧ s.syncState = .synced ∧ s.rxCnt = 14 ∧
        t.syncState = .synced)) ∧
    (∀ b, i = .rxByte b → s.lstate = .active → s.syncState = .synced → s.rxCnt = 14 → t.syncState = .synced →
      t.stats.received = s.stats.received + 1) ∧
    (t.stats.lost = s.stats.lost ∨ (t.stats.lost = s.stats.lost + 1 ∧ i = .sndDeq ∧ tryGranted s = false)) ∧
    (i = .sndDeq → sndReady s = true → tryGranted s = false → t.stats.lost = s.stats.lost + 1) ∧
    (t.stats.syncTriggered = s.stats.syncTriggered ∨
      (t.stats.syncTriggered = s.stats.syncTriggered + 1 ∧ i = .syncAcq)) ∧
    (i = .syncAcq → syncReady s = true → t.stats.syncTriggered = s.stats.syncTriggered + 1) ∧
    (t.stats.syncTmoTicks = s.stats.syncTmoTicks ∨
      (t.stats.syncTmoTicks = s.stats.syncTmoTicks + 1 ∧ passPossible s = true ∧
        (i = .timeout ∨ (∃ b, i = .rxByte b) ∧ s.cfg.tmoCountMode = .everyPass))) ∧
    (passPossible s = true → (i = .timeout ∨ (∃ b, i = .rxByte b) ∧ s.cfg.tmoCountMode = .everyPass) →
      t.stats.syncTmoTicks = s.stats.syncTmoTicks + 1) ∧
    (t.stats.syncFramesSent = s.stats.syncFramesSent ∨
      (t.stats.syncFramesSent = s.stats.syncFramesSent + 1 ∧ t.syncTxRem = 15 ∧
        (i = .syncAcq ∨ (passPossible s = true ∧ (i = .timeout ∨ ∃ b, i = .rxByte b))))) ∧
    (t.syncTxRem = 15 → s.syncTxRem = 0 → t.stats.syncFramesSent = s.stats.syncFramesSent + 1)

/-- R151: counting a granted frame from its SND_DEQ, sent plus lost plus the one in transmission counts the performed
SND_DEQs, modulo 2^32. -/
def Obligations.SentPlusLostCountsDequeues : Prop :=
  ∀ (i : Instr) (s t : State), exec i s = .next t →
    t.stats.sent + t.stats.lost + (if t.sndState = .tx then 1 else 0) =
      s.stats.sent + s.stats.lost + (if s.sndState = .tx then 1 else 0) +
        (if i = .sndDeq ∧ enabled i s = true then 1 else 0)

/-! ## The frame queue -/

/-- R140 with R91, R52: a free slot's 15 bytes become the body and its checksum, the slot moves to the filled FIFO's tail,
and nothing else changes. The three premises on `v` hold of every legal state (R65). -/
def Obligations.PutFrameStoresStampedFrame : Prop :=
  ∀ (d : PutData) (s : State),
    (enabled (.putFrame d) s = true ↔ s.lstate = .active ∧ 0 < s.freeQ.length) ∧
    ∀ (v : SlotIx) (q : List SlotIx), s.lstate = .active → s.freeQ = v :: q → v.toNat < s.cfg.nSlots →
      s.filledQ.length < s.cfg.nSlots → v ∉ s.filledQ →
      ∃ m : Memory, exec (.putFrame d) s = .next { s with freeQ := q, filledQ := s.filledQ ++ [v], slots := m } ∧
        (∀ i, i < 14 → m.read (v.toNat * 15 + i) = some (BitVec.ofNat 8 (d.toNat / 2 ^ (8 * i)))) ∧
        m.read (v.toNat * 15 + 14) = some (chk s.cfg.checksumAlg (bodyBytes d)) ∧
        (∀ a, a < v.toNat * 15 ∨ v.toNat * 15 + 15 ≤ a → m.read a = s.slots.read a) ∧
        (s.slots.wf → m.wf)

/-- R146: in ACTIVE, put_ready is up exactly while fewer than N_SLOTS slots are queued or in transmission. -/
def Obligations.PutReadyWhileSlotsRemain : Prop :=
  ∀ s : State, Conserved s → s.lstate = .active →
    (putReady s = true ↔ s.filledQ.length + (inFlight s).length < s.cfg.nSlots)

/-- R146: as many bodies are accepted without a dequeue as slots are free; the slots enter the filled FIFO in the order they
left the free FIFO, and then put_ready is down. -/
def Obligations.FreeSlotsBoundAcceptedBodies : Prop :=
  ∀ (ds : List PutData) (s : State), Conserved s → s.lstate = .active → ds.length = s.freeQ.length →
    ∃ t, execAll (ds.map .putFrame) s = .next t ∧ t.freeQ = [] ∧ t.filledQ = s.filledQ ++ s.freeQ ∧ putReady t = false ∧
      t.lstate = .active ∧ t.stats = s.stats ∧ t.owner = s.owner ∧ t.txOut = s.txOut

/-- R66: which operations move a slot, and where. -/
def Obligations.SlotsMoveOnlyAsRuled : Prop :=
  ∀ (i : Instr) (s t : State), exec i s = .next t →
    (t.freeQ = s.freeQ ∧ t.filledQ = s.filledQ ∧ inFlight t = inFlight s) ∨
    (∃ d v, i = .putFrame d ∧ s.freeQ = v :: t.freeQ ∧ t.filledQ = s.filledQ ++ [v] ∧ inFlight t = inFlight s) ∨
    (∃ v, i = .sndDeq ∧ tryGranted s = true ∧ s.filledQ = v :: t.filledQ ∧ t.freeQ = s.freeQ ∧ inFlight s = [] ∧
      inFlight t = [v]) ∨
    (∃ v, i = .sndDeq ∧ tryGranted s = false ∧ s.filledQ = v :: t.filledQ ∧ t.freeQ = s.freeQ ++ [v] ∧
      inFlight t = inFlight s) ∨
    (∃ v, i = .txByte ∧ s.sndIdx = 14 ∧ inFlight s = [v] ∧ inFlight t = [] ∧ t.freeQ = s.freeQ ++ [v] ∧
      t.filledQ = s.filledQ)

/-- R65: the slots are conserved by every step, and so no step pushes on a full FIFO, pushes a slot twice or pops an empty
FIFO. -/
def Obligations.SlotsConserved : Prop :=
  ∀ s : State, Conserved s →
    (∀ t, step s = .next t → Conserved t) ∧
    step s ≠ .fault .fifoFull ∧ step s ≠ .fault .slotIndexTwice ∧ step s ≠ .fault .fifoEmpty

/-- R65 of the reset state, for every legal configuration. -/
def Obligations.SlotsConservedAtReset : Prop := ∀ c : Config, c.wf = true → Conserved (State.resetWith c)

/-- R64: no operation writes a slot in FILLED_Q or held by the sender. -/
def Obligations.QueuedFramesUnchanged : Prop :=
  ∀ (i : Instr) (s t : State), Conserved s → exec i s = .next t →
    ∀ v ∈ s.filledQ ++ inFlight s, slotFrame t v = slotFrame s v

/-! ## The sender and the transmit stream -/

/-- R150 with R101: a granted try takes the channel and holds the slot; a denied one counts the frame lost and frees the
slot at once; the try is denied exactly when the sync FSM owns or waits for the channel.
The premises on the free FIFO in the denied case hold of every legal state (R65). -/
def Obligations.SndDeqTriesChannel : Prop :=
  ∀ s : State,
    (enabled .sndDeq s = true ↔ s.lstate = .active ∧ s.sndState = .idle ∧ 0 < s.filledQ.length) ∧
    (SenderLegal s → enabled .sndDeq s = true →
      (¬ (s.owner = .none ∧ s.syncState ≠ .waitGrant) ↔ s.owner = .sync ∨ s.syncState = .waitGrant)) ∧
    ∀ (v : SlotIx) (q : List SlotIx), s.lstate = .active → s.sndState = .idle → s.filledQ = v :: q →
      (s.owner = .none ∧ s.syncState ≠ .waitGrant →
        exec .sndDeq s =
          .next { s with filledQ := q, owner := .sender, sndState := .tx, sndSlot := v, sndIdx := 0 }) ∧
      (¬ (s.owner = .none ∧ s.syncState ≠ .waitGrant) → s.freeQ.length < s.cfg.nSlots → v ∉ s.freeQ →
        exec .sndDeq s =
          .next { s with filledQ := q, freeQ := s.freeQ ++ [v], stats := { s.stats with lost := s.stats.lost + 1 } })

/-- R104 with R103: TX_BYTE emits the owner's byte (appended to the model's output list, log 6); the fifteenth byte of a sender frame counts it, frees the slot and
releases the channel; a SyncFrame's end releases nothing. The premises on the free FIFO hold of every legal state. -/
def Obligations.TxByteEmitsOwnersByte : Prop :=
  ∀ s : State,
    (enabled .txByte s = true ↔ s.lstate = .active ∧
      ((s.owner = .sender ∧ s.sndState = .tx) ∨ (s.owner = .sync ∧ 0 < s.syncTxRem.toNat))) ∧
    (∀ b, s.lstate = .active → s.owner = .sender → s.sndState = .tx → s.sndSlot.toNat < s.cfg.nSlots →
      s.slots.read (slotAddr s.sndSlot s.sndIdx.toNat) = some b → s.sndIdx.toNat < 14 →
      exec .txByte s = .next { s with txOut := s.txOut ++ [b], sndIdx := s.sndIdx + 1 }) ∧
    (∀ b, s.lstate = .active → s.owner = .sender → s.sndState = .tx → s.sndSlot.toNat < s.cfg.nSlots →
      s.slots.read (slotAddr s.sndSlot 14) = some b → s.sndIdx = 14 → s.freeQ.length < s.cfg.nSlots →
      s.sndSlot ∉ s.freeQ →
      exec .txByte s =
        .next { s with
          txOut := s.txOut ++ [b], stats := { s.stats with sent := s.stats.sent + 1 },
          freeQ := s.freeQ ++ [s.sndSlot], sndState := .idle, sndSlot := 0, sndIdx := 0, owner := .none }) ∧
    (s.lstate = .active → s.owner = .sync → 0 < s.syncTxRem.toNat →
      exec .txByte s = .next { s with txOut := s.txOut ++ [0xFF], syncTxRem := s.syncTxRem - 1 })

/-- R27, R103: tx_data is a byte exactly while TX_BYTE is enabled, and then the byte that TX_BYTE emits (onto the model's output
list, log 6); it stays offered, unchanged, through every operation but the transfer itself. -/
def Obligations.OfferedByteIsStable : Prop :=
  (∀ (s : State) (b : Byte), Legal s →
    (txData s = some b ↔ enabled .txByte s = true ∧ ∃ t, exec .txByte s = .next t ∧ t.txOut = s.txOut ++ [b])) ∧
  (∀ s : State, Legal s → (enabled .txByte s = true ↔ ∃ b, txData s = some b)) ∧
  ∀ (i : Instr) (s t : State) (b : Byte), Legal s → i ≠ .txByte → txData s = some b → exec i s = .next t →
    txData t = some b

/-- R151, R105: from a legal state with the channel free, a granted SND_DEQ and exactly 15 TX_BYTEs transmit the 15 stored
bytes of the head of the filled FIFO, count one frame sent, and return the slot to the free FIFO. -/
def Obligations.SendTransmitsWholeFrame : Prop :=
  ∀ (s : State) (v : SlotIx) (q : List SlotIx), Legal s → s.lstate = .active → s.sndState = .idle → s.filledQ = v :: q →
    s.owner = .none → s.syncState ≠ .waitGrant →
    ∃ f, slotFrame s v = some f ∧
      execAll (.sndDeq :: List.replicate 15 .txByte) s =
        .next { s with
          filledQ := q, freeQ := s.freeQ ++ [v], txOut := s.txOut ++ f,
          stats := { s.stats with sent := s.stats.sent + 1 } }

/-- R105, R131 with R34: everything emitted since reset is whole frames that verify and whole SyncFrames, then the item under
way; STAT_SENT counts the frames, STAT_SYNC_FRAMES_SENT the SyncFrames. Every step keeps it. -/
def Obligations.TransmitStreamIsWholeFrames : Prop :=
  ∀ s t : State, Legal s → WholeFrames s → step s = .next t → WholeFrames t

/-- The transmit stream at reset (R200): nothing emitted (log 6), every counter 0, and so the stream's invariant holds. -/
def Obligations.TransmitStreamAtReset : Prop :=
  ∀ c : Config, (State.resetWith c).txOut = [] ∧ (State.resetWith c).stats = ⟨0, 0, 0, 0, 0, 0⟩ ∧
    begun (State.resetWith c) = [] ∧ WholeFrames (State.resetWith c)

/-! ## Arbitration and the sync FSM -/

/-- R102. -/
def Obligations.SyncAcqTakesChannel : Prop :=
  ∀ s : State,
    (enabled .syncAcq s = true ↔ s.lstate = .active ∧ s.syncState = .waitGrant ∧ s.owner = .none) ∧
    (s.lstate = .active → s.syncState = .waitGrant → s.owner = .none →
      exec .syncAcq s =
        .next { s with
          owner := .sync, syncState := .resync, syncTxRem := 15, hitCnt := 0, tmoCnt := 0,
          stats := { s.stats with
            syncTriggered := s.stats.syncTriggered + 1, syncFramesSent := s.stats.syncFramesSent + 1 } })

/-- R28: who sets OWNER, and to what. -/
def Obligations.OwnerChangesOnlyAsRuled : Prop :=
  ∀ (i : Instr) (s t : State), SyncLegal s → exec i s = .next t →
    t.owner = s.owner ∨
    (i = .sndDeq ∧ tryGranted s = true ∧ s.owner = .none ∧ t.owner = .sender) ∨
    (i = .syncAcq ∧ s.syncState = .waitGrant ∧ s.owner = .none ∧ t.owner = .sync) ∨
    (i = .txByte ∧ s.sndIdx = 14 ∧ s.owner = .sender ∧ t.owner = .none) ∨
    (∃ b, i = .rxByte b ∧ s.owner = .sync ∧ s.hitCnt = 14 ∧ b = 0xFF ∧ t.owner = .none ∧ t.syncState = .synced)

/-- R30: the three transitions of SYNC_STATE and no other; TIMEOUT makes none (R126). -/
def Obligations.SyncStateTransitions : Prop :=
  ∀ (i : Instr) (s t : State), SyncLegal s → exec i s = .next t →
    t.syncState = s.syncState ∨
    (∃ b, i = .rxByte b ∧ s.syncState = .synced ∧ t.syncState = .waitGrant ∧ s.rxCnt = 14) ∨
    (i = .syncAcq ∧ s.syncState = .waitGrant ∧ t.syncState = .resync) ∨
    (i = .rxByte 0xFF ∧ s.syncState = .resync ∧ t.syncState = .synced ∧ s.hitCnt = 14)

/-- R106, R128: while the sync FSM waits for or holds the channel the sender cannot take it, a waiting FSM is the only next
owner, and no frame is received. -/
def Obligations.RealignmentTakesPrecedence : Prop :=
  ∀ (i : Instr) (s t : State), SyncLegal s → s.syncState ≠ .synced → exec i s = .next t →
    (s.owner ≠ .sender → t.owner ≠ .sender) ∧
    (s.syncState = .waitGrant → s.owner = .none → t.owner ≠ .none → i = .syncAcq ∧ t.owner = .sync) ∧
    t.stats.received = s.stats.received ∧
    (enabled .sndDeq s = true → i = .sndDeq → t.stats.lost = s.stats.lost + 1)

/-- R109: if the sender owns the channel when a verify has failed, exactly 15 - SND_IDX TX_BYTEs later SYNC_ACQ is
enabled. -/
def Obligations.SyncWaitIsBounded : Prop :=
  ∀ s : State, Legal s → s.lstate = .active → s.syncState = .waitGrant → s.owner = .sender →
    ∃ t, execAll (List.replicate (15 - s.sndIdx.toNat) .txByte) s = .next t ∧ enabled .syncAcq t = true ∧
      t.stats.sent = s.stats.sent + 1 ∧ t.freeQ = s.freeQ ++ [s.sndSlot] ∧ t.filledQ = s.filledQ

/-- R102, R104, R107: an acquired channel carries one whole SyncFrame and stays held. -/
def Obligations.AcquireSendsWholeSyncFrame : Prop :=
  ∀ s : State, s.lstate = .active → s.syncState = .waitGrant → s.owner = .none →
    execAll (.syncAcq :: List.replicate 15 .txByte) s =
      .next { s with
        owner := .sync, syncState := .resync, syncTxRem := 0, hitCnt := 0, tmoCnt := 0,
        txOut := s.txOut ++ List.replicate 15 0xFF,
        stats := { s.stats with
          syncTriggered := s.stats.syncTriggered + 1, syncFramesSent := s.stats.syncFramesSent + 1 } }

/-- R122 to R125 with R126 and R163: a pass, with a byte (RX_BYTE) or without one (TIMEOUT), counts, then terminates at 15
hits, else resends at the threshold. -/
def Obligations.ResyncPassCountsThenSettles : Prop :=
  (∀ s : State, enabled .timeout s = true ↔ s.lstate = .active ∧ s.syncState = .resync ∧ s.syncTxRem = 0) ∧
  ∀ (s : State) (b : Option Byte), s.lstate = .active → s.syncState = .resync → s.syncTxRem = 0 →
    ∀ (tmo : BitVec 8) (hit : BitVec 4) (ticks : Reg),
      (s.cfg.tmoCountMode = .everyPass ∨ b = none → tmo = s.tmoCnt + 1 ∧ ticks = s.stats.syncTmoTicks + 1) →
      (¬ (s.cfg.tmoCountMode = .everyPass ∨ b = none) → tmo = s.tmoCnt ∧ ticks = s.stats.syncTmoTicks) →
      (b = some 0xFF → hit = s.hitCnt + 1) →
      (b ≠ some 0xFF → b ≠ none → s.cfg.syncHitMode = .contiguous → hit = 0) →
      (b ≠ some 0xFF → b = none ∨ s.cfg.syncHitMode = .cumulative → hit = s.hitCnt) →
      exec (match b with | none => .timeout | some b => .rxByte b) s =
        .next (
          if hit = 15 then
            { s with
              hitCnt := 0, tmoCnt := 0, syncState := .synced, owner := .none, rxCnt := 0,
              stats := { s.stats with syncTmoTicks := ticks } }
          else if tmo.toNat = s.cfg.syncTimeoutThrs then
            { s with
              hitCnt := hit, tmoCnt := 0, syncTxRem := 15,
              stats := { s.stats with syncTmoTicks := ticks, syncFramesSent := s.stats.syncFramesSent + 1 } }
          else { s with hitCnt := hit, tmoCnt := tmo, stats := { s.stats with syncTmoTicks := ticks } })

/-- R126: TIMEOUT never terminates a resync and leaves HIT_CNT alone. -/
def Obligations.TimeoutNeverTerminates : Prop :=
  ∀ s t : State, SyncLegal s → exec .timeout s = .next t →
    t.syncState = s.syncState ∧ t.owner = s.owner ∧ t.hitCnt = s.hitCnt

/-- R129: a resync whose received bytes are all 0xFF ends after exactly 15 byte passes (with no resend on the way, which the
premise on TMO_CNT says). -/
def Obligations.FifteenHitsEndResync : Prop :=
  ∀ s : State, s.lstate = .active → s.syncState = .resync → s.syncTxRem = 0 → s.hitCnt = 0 →
    s.cfg.wf = true → (s.cfg.tmoCountMode = .everyPass → s.tmoCnt.toNat + 14 < s.cfg.syncTimeoutThrs) →
    (s.tmoCnt.toNat < s.cfg.syncTimeoutThrs) →
    (∀ n t, n < 15 → execAll (List.replicate n (.rxByte 0xFF)) s = .next t →
      t.syncState = .resync ∧ t.hitCnt.toNat = n) ∧
    execAll (List.replicate 15 (.rxByte 0xFF)) s =
      .next { s with
        hitCnt := 0, tmoCnt := 0, syncState := .synced, owner := .none, rxCnt := 0,
        stats := { s.stats with
          syncTmoTicks := s.stats.syncTmoTicks + (if s.cfg.tmoCountMode = .everyPass then 15 else 0) } }

/-- R128: under continuous timeout expiry the SyncFrame is resent at the SYNC_TIMEOUT_THRS-th pass since the last one, and
HIT_CNT survives it (R125). -/
def Obligations.TimeoutsResendSyncFrame : Prop :=
  ∀ s : State, Legal s → s.lstate = .active → s.syncState = .resync → s.syncTxRem = 0 →
    ∃ t, execAll (List.replicate (s.cfg.syncTimeoutThrs - s.tmoCnt.toNat) .timeout) s = .next t ∧
      t.syncTxRem = 15 ∧ t.tmoCnt = 0 ∧ t.hitCnt = s.hitCnt ∧ t.syncState = .resync ∧ t.owner = s.owner ∧
      t.stats.syncFramesSent = s.stats.syncFramesSent + 1 ∧
      t.stats.syncTmoTicks = s.stats.syncTmoTicks + BitVec.ofNat 32 (s.cfg.syncTimeoutThrs - s.tmoCnt.toNat)

/-! ## The receiver -/

/-- R160, R164: rx_ready, and a byte outside ACTIVE is accepted and discarded. -/
def Obligations.RxByteReadyAndDiscard : Prop :=
  ∀ (b : Byte) (s : State),
    (enabled (.rxByte b) s = true ↔
      s.lstate ≠ .active ∨ s.syncState = .synced ∨ (s.syncState = .resync ∧ s.syncTxRem = 0)) ∧
    (s.lstate ≠ .active → exec (.rxByte b) s = .next s)

/-- R161, R162: in SYNCED a byte goes to RX_BUF[RX_CNT]; the fifteenth is verified with the 14 before it, and the frame is
counted or a resync entered. -/
def Obligations.RxByteAssemblesFrame : Prop :=
  ∀ (b : Byte) (s : State), s.lstate = .active → s.syncState = .synced →
    (s.rxCnt.toNat < 14 →
      ∃ m : Memory, exec (.rxByte b) s = .next { s with rxBuf := m, rxCnt := s.rxCnt + 1 } ∧
        m.read s.rxCnt.toNat = some b ∧ (∀ j, j ≠ s.rxCnt.toNat → m.read j = s.rxBuf.read j)) ∧
    ∀ body : List Byte, s.rxCnt = 14 → body.length = 14 → (∀ j, j < 14 → s.rxBuf.read j = body[j]?) →
      ∃ m : Memory, m.read 14 = some b ∧ (∀ j, j ≠ 14 → m.read j = s.rxBuf.read j) ∧
        (chk s.cfg.checksumAlg body = b →
          exec (.rxByte b) s =
            .next { s with rxBuf := m, rxCnt := 0, stats := { s.stats with received := s.stats.received + 1 } }) ∧
        (chk s.cfg.checksumAlg body ≠ b →
          exec (.rxByte b) s = .next { s with rxBuf := m, rxCnt := 0, syncState := .waitGrant })

/-- R161, R162: fifteen bytes received from the start of a frame are counted as a frame if the checksum matches and start a
resync if it does not, whatever bytes they are and whatever RX_BUF held. -/
def Obligations.FifteenBytesMakeAFrame : Prop :=
  ∀ (body : List Byte) (c : Byte) (s : State), body.length = 14 → s.lstate = .active → s.syncState = .synced →
    s.rxCnt = 0 →
    ∃ m : Memory, m.readBytes 0 15 = some (body ++ [c]) ∧
      execAll ((body ++ [c]).map .rxByte) s =
        .next (
          if chk s.cfg.checksumAlg body = c then
            { s with rxBuf := m, stats := { s.stats with received := s.stats.received + 1 } }
          else { s with rxBuf := m, syncState := .waitGrant })

/-! ## The checksum unit -/

/-- R90: SUM8 is the sum of the bytes modulo 256; XOR8 is, at each bit, the parity of the bytes that have it set. -/
def Obligations.ChecksumIsXorOrSum : Prop :=
  ∀ body : List Byte,
    (chk .sum8 body).toNat = (body.map BitVec.toNat).sum % 256 ∧
    ∀ k, k < 8 → (chk .xor8 body).getLsbD k = decide ((body.countP (fun b => b.getLsbD k)) % 2 = 1)

/-- R93: a stamped body verifies. -/
def Obligations.StampedFrameVerifies : Prop :=
  ∀ (alg : ChecksumAlg) (body : List Byte), body.length = 14 → verify alg (stamp alg body) = true

/-- R94: a frame that verifies does not verify with one bit flipped, in any of its 15 bytes, under either algorithm. -/
def Obligations.SingleBitErrorDetected : Prop :=
  ∀ (alg : ChecksumAlg) (f : List Byte) (n k : Nat) (b : Byte), f.length = 15 → k < 8 → f[n]? = some b →
    verify alg f = true → verify alg (f.set n (b ^^^ BitVec.twoPow 8 k)) = false

/-- R95: the SyncFrame never verifies, so no stamped frame is a SyncFrame. -/
def Obligations.SyncFrameNeverVerifies : Prop :=
  ∀ alg : ChecksumAlg, verify alg syncFrame = false ∧ ∀ body : List Byte, body.length = 14 → stamp alg body ≠ syncFrame

/-! ## Whole-machine rules -/

/-- R22, R29, R20, R172: which operation may write each store, and what no operation writes. -/
def Obligations.StoresHaveOneWriter : Prop :=
  ∀ (i : Instr) (s t : State), exec i s = .next t →
    t.cfg = s.cfg ∧ t.byteTimer = s.byteTimer ∧ t.inputs = s.inputs ∧
    ((∀ d, i ≠ .putFrame d) → t.slots = s.slots) ∧
    ((∀ b, i ≠ .rxByte b) ∨ s.syncState ≠ .synced ∨ s.lstate ≠ .active → t.rxBuf = s.rxBuf ∧
      (t.rxCnt = s.rxCnt ∨ t.rxCnt = 0)) ∧
    (i ≠ .txByte → t.txOut = s.txOut) ∧
    ((∀ a, i ≠ .regRead a) → t.rdOut = s.rdOut)

/-- Every step keeps the legal states. -/
def Obligations.LegalStatesKept : Prop := ∀ s t : State, Legal s → step s = .next t → Legal t

/-- The reset state is legal for every legal configuration (R20, R200). -/
def Obligations.ResetIsLegal : Prop := ∀ c : Config, c.wf = true → Legal (State.resetWith c)

/-- R65, R201, R180: from a legal state every operation completes, by its effect or by holding, and no step is a fault.
R6 gives an operation whose guard is false no step; that it completes unchanged is the model's choice (log 5). -/
def Obligations.NoModelFaultFromLegalState : Prop :=
  ∀ s : State, Legal s → (∀ i : Instr, ∃ t, exec i s = .next t) ∧ ∀ f : Fault, step s ≠ .fault f

/-- R65, R201: whatever the schedule (the model's own field, log 4), a state reached from reset is legal and its next step is
no model fault. -/
def Obligations.ReachableStatesAreSafe : Prop :=
  ∀ (c : Config) (s : State), c.wf = true → Reachable c s → Legal s ∧ ∀ f : Fault, step s ≠ .fault f

/-! ## Reset and the clocked rendering -/

/-- R200, R201: a rising edge with rst_n = 0 puts every field at its reset value whatever else happens in that cycle, and the
outputs are those of the reset state. The stores' unwritten form, the byte timer's 0 and what becomes of the model's own
lists are the model's choice (log 2, 3, 4, 6, 7). -/
def Obligations.ResetEdgeRestoresResetState : Prop :=
  ∀ (c : ClockCycle) (s : State), c.rstN = false →
    clockEdge c s =
      .next { cfg := s.cfg, lstate := .uninit, slots := [], freeQ := (List.range s.cfg.nSlots).map (BitVec.ofNat 8),
              filledQ := [], sndState := .idle, sndSlot := 0, sndIdx := 0, owner := .none, rxBuf := [], rxCnt := 0,
              syncState := .synced, syncTxRem := 0, hitCnt := 0, tmoCnt := 0, stats := ⟨0, 0, 0, 0, 0, 0⟩,
              byteTimer := 0, inputs := s.inputs, txOut := [], rdOut := [] } ∧
    (outputs c s).putReady = false ∧ (outputs c s).txValid = false ∧ (outputs c s).rxReady = true ∧
    (outputs c s).regRdata = regRead c.regAddr (State.resetWith s.cfg)

/-- R205, R27: one clock edge without reset is a sequence of labelled steps, each enabled when performed, at most one of a
kind, in R205's order (`cycleRank` rises along it).
A register read, a CTRL command, a transfer on a port and the expiring timer's TIMEOUT is each exactly one of them, and
nothing else is but the engines' operations.
Which engine acts in a cycle is the model's own bit of the edge (log 8); the timer's part is its reading of R127 (log 7). -/
def Obligations.ClockEdgeIsLabelledSteps : Prop :=
  ∀ (c : ClockCycle) (s : State), Legal s → c.rstN = true →
    ∃ is t, clockEdge c s = .next t ∧ PerformedAll is { s with byteTimer := nextTimer c s } t ∧
      is.Pairwise (fun i j => cycleRank i < cycleRank j) ∧
      (∀ a, .regRead a ∈ is ↔ c.regRd = true ∧ a = c.regAddr) ∧
      (.init ∈ is ↔ c.regWr = true ∧ c.regAddr.toNat < 4 ∧ c.regWdata.toNat % 4 = 1) ∧
      (.start ∈ is ↔ c.regWr = true ∧ c.regAddr.toNat < 4 ∧ c.regWdata.toNat % 4 = 2) ∧
      (.syncAcq ∈ is ↔ c.syncGo = true ∧ enabled .syncAcq s = true) ∧
      (.txByte ∈ is ↔ c.txReady = true ∧ enabled .txByte s = true) ∧
      (∀ b, .rxByte b ∈ is ↔ c.rxValid = true ∧ b = c.rxData ∧ enabled (.rxByte b) s = true) ∧
      (.timeout ∈ is ↔ c.rxValid = false ∧ enabled .timeout s = true ∧ s.cfg.byteTimeoutCycles ≤ s.byteTimer + 1) ∧
      (.sndDeq ∈ is → c.sndGo = true) ∧ (c.sndGo = true → enabled .sndDeq s = true → .sndDeq ∈ is) ∧
      (∀ d, .putFrame d ∈ is ↔ c.putValid = true ∧ d = c.putData ∧ enabled (.putFrame d) s = true)

/-- R127: the byte timer is 0 while no pass is possible and after a pass, advances by 1 in a cycle in which a pass is possible
and no byte is transferred, and TIMEOUT happens exactly when it reaches BYTE_TIMEOUT_CYCLES; a transfer wins.
Its rest at 0 while no pass is possible is the model's reading (log 7). -/
def Obligations.ByteTimerRuns : Prop :=
  ∀ (c : ClockCycle) (s t : State), c.rstN = true → clockEdge c s = .next t →
    (passPossible s = false → t.byteTimer = 0) ∧
    (passPossible s = true → c.rxValid = true → t.byteTimer = 0 ∧ .timeout ∉ cycleOps c s) ∧
    (passPossible s = true → c.rxValid = false → s.byteTimer + 1 < s.cfg.byteTimeoutCycles →
      t.byteTimer = s.byteTimer + 1 ∧ .timeout ∉ cycleOps c s) ∧
    (passPossible s = true → c.rxValid = false → s.cfg.byteTimeoutCycles ≤ s.byteTimer + 1 →
      t.byteTimer = 0 ∧ .timeout ∈ cycleOps c s)

/-- R26, R27: while rst_n is 1, put_ready, tx_valid and rx_ready are 1 exactly when their operations are enabled, tx_data is
the offered byte, and reg_rdata is the register's value before the edge. -/
def Obligations.PinsFollowGuards : Prop :=
  ∀ (c : ClockCycle) (s : State) (d : PutData) (b : Byte), c.rstN = true →
    (outputs c s).putReady = enabled (.putFrame d) s ∧ (outputs c s).txValid = enabled .txByte s ∧
    (outputs c s).rxReady = enabled (.rxByte b) s ∧ (outputs c s).txData = txData s ∧
    (outputs c s).regRdata = regRead c.regAddr s
end

