-- ==== Sys2Proof/Laws/State.lean ====
section
/-! SUPPORT. Every field of State after every named update: one lemma a field a update, true by rfl. -/

namespace Sys2Proof.Machine

variable (s : State)

/-! ## setLstate -/

@[simp] theorem State.setLstate_cfg (l : Lifecycle) : (s.setLstate l).cfg = s.cfg := rfl
@[simp] theorem State.setLstate_lstate (l : Lifecycle) : (s.setLstate l).lstate = l := rfl
@[simp] theorem State.setLstate_slots (l : Lifecycle) : (s.setLstate l).slots = s.slots := rfl
@[simp] theorem State.setLstate_freeQ (l : Lifecycle) : (s.setLstate l).freeQ = s.freeQ := rfl
@[simp] theorem State.setLstate_filledQ (l : Lifecycle) : (s.setLstate l).filledQ = s.filledQ := rfl
@[simp] theorem State.setLstate_sndState (l : Lifecycle) : (s.setLstate l).sndState = s.sndState := rfl
@[simp] theorem State.setLstate_sndSlot (l : Lifecycle) : (s.setLstate l).sndSlot = s.sndSlot := rfl
@[simp] theorem State.setLstate_sndIdx (l : Lifecycle) : (s.setLstate l).sndIdx = s.sndIdx := rfl
@[simp] theorem State.setLstate_owner (l : Lifecycle) : (s.setLstate l).owner = s.owner := rfl
@[simp] theorem State.setLstate_rxBuf (l : Lifecycle) : (s.setLstate l).rxBuf = s.rxBuf := rfl
@[simp] theorem State.setLstate_rxCnt (l : Lifecycle) : (s.setLstate l).rxCnt = s.rxCnt := rfl
@[simp] theorem State.setLstate_syncState (l : Lifecycle) : (s.setLstate l).syncState = s.syncState := rfl
@[simp] theorem State.setLstate_syncTxRem (l : Lifecycle) : (s.setLstate l).syncTxRem = s.syncTxRem := rfl
@[simp] theorem State.setLstate_hitCnt (l : Lifecycle) : (s.setLstate l).hitCnt = s.hitCnt := rfl
@[simp] theorem State.setLstate_tmoCnt (l : Lifecycle) : (s.setLstate l).tmoCnt = s.tmoCnt := rfl
@[simp] theorem State.setLstate_stats (l : Lifecycle) : (s.setLstate l).stats = s.stats := rfl
@[simp] theorem State.setLstate_byteTimer (l : Lifecycle) : (s.setLstate l).byteTimer = s.byteTimer := rfl
@[simp] theorem State.setLstate_inputs (l : Lifecycle) : (s.setLstate l).inputs = s.inputs := rfl
@[simp] theorem State.setLstate_txOut (l : Lifecycle) : (s.setLstate l).txOut = s.txOut := rfl
@[simp] theorem State.setLstate_rdOut (l : Lifecycle) : (s.setLstate l).rdOut = s.rdOut := rfl

/-! ## report -/

@[simp] theorem State.report_cfg (v : Reg) : (s.report v).cfg = s.cfg := rfl
@[simp] theorem State.report_lstate (v : Reg) : (s.report v).lstate = s.lstate := rfl
@[simp] theorem State.report_slots (v : Reg) : (s.report v).slots = s.slots := rfl
@[simp] theorem State.report_freeQ (v : Reg) : (s.report v).freeQ = s.freeQ := rfl
@[simp] theorem State.report_filledQ (v : Reg) : (s.report v).filledQ = s.filledQ := rfl
@[simp] theorem State.report_sndState (v : Reg) : (s.report v).sndState = s.sndState := rfl
@[simp] theorem State.report_sndSlot (v : Reg) : (s.report v).sndSlot = s.sndSlot := rfl
@[simp] theorem State.report_sndIdx (v : Reg) : (s.report v).sndIdx = s.sndIdx := rfl
@[simp] theorem State.report_owner (v : Reg) : (s.report v).owner = s.owner := rfl
@[simp] theorem State.report_rxBuf (v : Reg) : (s.report v).rxBuf = s.rxBuf := rfl
@[simp] theorem State.report_rxCnt (v : Reg) : (s.report v).rxCnt = s.rxCnt := rfl
@[simp] theorem State.report_syncState (v : Reg) : (s.report v).syncState = s.syncState := rfl
@[simp] theorem State.report_syncTxRem (v : Reg) : (s.report v).syncTxRem = s.syncTxRem := rfl
@[simp] theorem State.report_hitCnt (v : Reg) : (s.report v).hitCnt = s.hitCnt := rfl
@[simp] theorem State.report_tmoCnt (v : Reg) : (s.report v).tmoCnt = s.tmoCnt := rfl
@[simp] theorem State.report_stats (v : Reg) : (s.report v).stats = s.stats := rfl
@[simp] theorem State.report_byteTimer (v : Reg) : (s.report v).byteTimer = s.byteTimer := rfl
@[simp] theorem State.report_inputs (v : Reg) : (s.report v).inputs = s.inputs := rfl
@[simp] theorem State.report_txOut (v : Reg) : (s.report v).txOut = s.txOut := rfl
@[simp] theorem State.report_rdOut (v : Reg) : (s.report v).rdOut = s.rdOut ++ [v] := rfl

/-! ## emit -/

@[simp] theorem State.emit_cfg (b : Byte) : (s.emit b).cfg = s.cfg := rfl
@[simp] theorem State.emit_lstate (b : Byte) : (s.emit b).lstate = s.lstate := rfl
@[simp] theorem State.emit_slots (b : Byte) : (s.emit b).slots = s.slots := rfl
@[simp] theorem State.emit_freeQ (b : Byte) : (s.emit b).freeQ = s.freeQ := rfl
@[simp] theorem State.emit_filledQ (b : Byte) : (s.emit b).filledQ = s.filledQ := rfl
@[simp] theorem State.emit_sndState (b : Byte) : (s.emit b).sndState = s.sndState := rfl
@[simp] theorem State.emit_sndSlot (b : Byte) : (s.emit b).sndSlot = s.sndSlot := rfl
@[simp] theorem State.emit_sndIdx (b : Byte) : (s.emit b).sndIdx = s.sndIdx := rfl
@[simp] theorem State.emit_owner (b : Byte) : (s.emit b).owner = s.owner := rfl
@[simp] theorem State.emit_rxBuf (b : Byte) : (s.emit b).rxBuf = s.rxBuf := rfl
@[simp] theorem State.emit_rxCnt (b : Byte) : (s.emit b).rxCnt = s.rxCnt := rfl
@[simp] theorem State.emit_syncState (b : Byte) : (s.emit b).syncState = s.syncState := rfl
@[simp] theorem State.emit_syncTxRem (b : Byte) : (s.emit b).syncTxRem = s.syncTxRem := rfl
@[simp] theorem State.emit_hitCnt (b : Byte) : (s.emit b).hitCnt = s.hitCnt := rfl
@[simp] theorem State.emit_tmoCnt (b : Byte) : (s.emit b).tmoCnt = s.tmoCnt := rfl
@[simp] theorem State.emit_stats (b : Byte) : (s.emit b).stats = s.stats := rfl
@[simp] theorem State.emit_byteTimer (b : Byte) : (s.emit b).byteTimer = s.byteTimer := rfl
@[simp] theorem State.emit_inputs (b : Byte) : (s.emit b).inputs = s.inputs := rfl
@[simp] theorem State.emit_txOut (b : Byte) : (s.emit b).txOut = s.txOut ++ [b] := rfl
@[simp] theorem State.emit_rdOut (b : Byte) : (s.emit b).rdOut = s.rdOut := rfl

/-! ## storeSlots -/

@[simp] theorem State.storeSlots_cfg (a : Nat) (bs : List Byte) : (s.storeSlots a bs).cfg = s.cfg := rfl
@[simp] theorem State.storeSlots_lstate (a : Nat) (bs : List Byte) : (s.storeSlots a bs).lstate = s.lstate := rfl
@[simp] theorem State.storeSlots_slots (a : Nat) (bs : List Byte) : (s.storeSlots a bs).slots = s.slots.writeBytes a bs := rfl
@[simp] theorem State.storeSlots_freeQ (a : Nat) (bs : List Byte) : (s.storeSlots a bs).freeQ = s.freeQ := rfl
@[simp] theorem State.storeSlots_filledQ (a : Nat) (bs : List Byte) : (s.storeSlots a bs).filledQ = s.filledQ := rfl
@[simp] theorem State.storeSlots_sndState (a : Nat) (bs : List Byte) : (s.storeSlots a bs).sndState = s.sndState := rfl
@[simp] theorem State.storeSlots_sndSlot (a : Nat) (bs : List Byte) : (s.storeSlots a bs).sndSlot = s.sndSlot := rfl
@[simp] theorem State.storeSlots_sndIdx (a : Nat) (bs : List Byte) : (s.storeSlots a bs).sndIdx = s.sndIdx := rfl
@[simp] theorem State.storeSlots_owner (a : Nat) (bs : List Byte) : (s.storeSlots a bs).owner = s.owner := rfl
@[simp] theorem State.storeSlots_rxBuf (a : Nat) (bs : List Byte) : (s.storeSlots a bs).rxBuf = s.rxBuf := rfl
@[simp] theorem State.storeSlots_rxCnt (a : Nat) (bs : List Byte) : (s.storeSlots a bs).rxCnt = s.rxCnt := rfl
@[simp] theorem State.storeSlots_syncState (a : Nat) (bs : List Byte) : (s.storeSlots a bs).syncState = s.syncState := rfl
@[simp] theorem State.storeSlots_syncTxRem (a : Nat) (bs : List Byte) : (s.storeSlots a bs).syncTxRem = s.syncTxRem := rfl
@[simp] theorem State.storeSlots_hitCnt (a : Nat) (bs : List Byte) : (s.storeSlots a bs).hitCnt = s.hitCnt := rfl
@[simp] theorem State.storeSlots_tmoCnt (a : Nat) (bs : List Byte) : (s.storeSlots a bs).tmoCnt = s.tmoCnt := rfl
@[simp] theorem State.storeSlots_stats (a : Nat) (bs : List Byte) : (s.storeSlots a bs).stats = s.stats := rfl
@[simp] theorem State.storeSlots_byteTimer (a : Nat) (bs : List Byte) : (s.storeSlots a bs).byteTimer = s.byteTimer := rfl
@[simp] theorem State.storeSlots_inputs (a : Nat) (bs : List Byte) : (s.storeSlots a bs).inputs = s.inputs := rfl
@[simp] theorem State.storeSlots_txOut (a : Nat) (bs : List Byte) : (s.storeSlots a bs).txOut = s.txOut := rfl
@[simp] theorem State.storeSlots_rdOut (a : Nat) (bs : List Byte) : (s.storeSlots a bs).rdOut = s.rdOut := rfl

/-! ## setFreeQ -/

@[simp] theorem State.setFreeQ_cfg (q : List SlotIx) : (s.setFreeQ q).cfg = s.cfg := rfl
@[simp] theorem State.setFreeQ_lstate (q : List SlotIx) : (s.setFreeQ q).lstate = s.lstate := rfl
@[simp] theorem State.setFreeQ_slots (q : List SlotIx) : (s.setFreeQ q).slots = s.slots := rfl
@[simp] theorem State.setFreeQ_freeQ (q : List SlotIx) : (s.setFreeQ q).freeQ = q := rfl
@[simp] theorem State.setFreeQ_filledQ (q : List SlotIx) : (s.setFreeQ q).filledQ = s.filledQ := rfl
@[simp] theorem State.setFreeQ_sndState (q : List SlotIx) : (s.setFreeQ q).sndState = s.sndState := rfl
@[simp] theorem State.setFreeQ_sndSlot (q : List SlotIx) : (s.setFreeQ q).sndSlot = s.sndSlot := rfl
@[simp] theorem State.setFreeQ_sndIdx (q : List SlotIx) : (s.setFreeQ q).sndIdx = s.sndIdx := rfl
@[simp] theorem State.setFreeQ_owner (q : List SlotIx) : (s.setFreeQ q).owner = s.owner := rfl
@[simp] theorem State.setFreeQ_rxBuf (q : List SlotIx) : (s.setFreeQ q).rxBuf = s.rxBuf := rfl
@[simp] theorem State.setFreeQ_rxCnt (q : List SlotIx) : (s.setFreeQ q).rxCnt = s.rxCnt := rfl
@[simp] theorem State.setFreeQ_syncState (q : List SlotIx) : (s.setFreeQ q).syncState = s.syncState := rfl
@[simp] theorem State.setFreeQ_syncTxRem (q : List SlotIx) : (s.setFreeQ q).syncTxRem = s.syncTxRem := rfl
@[simp] theorem State.setFreeQ_hitCnt (q : List SlotIx) : (s.setFreeQ q).hitCnt = s.hitCnt := rfl
@[simp] theorem State.setFreeQ_tmoCnt (q : List SlotIx) : (s.setFreeQ q).tmoCnt = s.tmoCnt := rfl
@[simp] theorem State.setFreeQ_stats (q : List SlotIx) : (s.setFreeQ q).stats = s.stats := rfl
@[simp] theorem State.setFreeQ_byteTimer (q : List SlotIx) : (s.setFreeQ q).byteTimer = s.byteTimer := rfl
@[simp] theorem State.setFreeQ_inputs (q : List SlotIx) : (s.setFreeQ q).inputs = s.inputs := rfl
@[simp] theorem State.setFreeQ_txOut (q : List SlotIx) : (s.setFreeQ q).txOut = s.txOut := rfl
@[simp] theorem State.setFreeQ_rdOut (q : List SlotIx) : (s.setFreeQ q).rdOut = s.rdOut := rfl

/-! ## setFilledQ -/

@[simp] theorem State.setFilledQ_cfg (q : List SlotIx) : (s.setFilledQ q).cfg = s.cfg := rfl
@[simp] theorem State.setFilledQ_lstate (q : List SlotIx) : (s.setFilledQ q).lstate = s.lstate := rfl
@[simp] theorem State.setFilledQ_slots (q : List SlotIx) : (s.setFilledQ q).slots = s.slots := rfl
@[simp] theorem State.setFilledQ_freeQ (q : List SlotIx) : (s.setFilledQ q).freeQ = s.freeQ := rfl
@[simp] theorem State.setFilledQ_filledQ (q : List SlotIx) : (s.setFilledQ q).filledQ = q := rfl
@[simp] theorem State.setFilledQ_sndState (q : List SlotIx) : (s.setFilledQ q).sndState = s.sndState := rfl
@[simp] theorem State.setFilledQ_sndSlot (q : List SlotIx) : (s.setFilledQ q).sndSlot = s.sndSlot := rfl
@[simp] theorem State.setFilledQ_sndIdx (q : List SlotIx) : (s.setFilledQ q).sndIdx = s.sndIdx := rfl
@[simp] theorem State.setFilledQ_owner (q : List SlotIx) : (s.setFilledQ q).owner = s.owner := rfl
@[simp] theorem State.setFilledQ_rxBuf (q : List SlotIx) : (s.setFilledQ q).rxBuf = s.rxBuf := rfl
@[simp] theorem State.setFilledQ_rxCnt (q : List SlotIx) : (s.setFilledQ q).rxCnt = s.rxCnt := rfl
@[simp] theorem State.setFilledQ_syncState (q : List SlotIx) : (s.setFilledQ q).syncState = s.syncState := rfl
@[simp] theorem State.setFilledQ_syncTxRem (q : List SlotIx) : (s.setFilledQ q).syncTxRem = s.syncTxRem := rfl
@[simp] theorem State.setFilledQ_hitCnt (q : List SlotIx) : (s.setFilledQ q).hitCnt = s.hitCnt := rfl
@[simp] theorem State.setFilledQ_tmoCnt (q : List SlotIx) : (s.setFilledQ q).tmoCnt = s.tmoCnt := rfl
@[simp] theorem State.setFilledQ_stats (q : List SlotIx) : (s.setFilledQ q).stats = s.stats := rfl
@[simp] theorem State.setFilledQ_byteTimer (q : List SlotIx) : (s.setFilledQ q).byteTimer = s.byteTimer := rfl
@[simp] theorem State.setFilledQ_inputs (q : List SlotIx) : (s.setFilledQ q).inputs = s.inputs := rfl
@[simp] theorem State.setFilledQ_txOut (q : List SlotIx) : (s.setFilledQ q).txOut = s.txOut := rfl
@[simp] theorem State.setFilledQ_rdOut (q : List SlotIx) : (s.setFilledQ q).rdOut = s.rdOut := rfl

/-! ## beginTx -/

@[simp] theorem State.beginTx_cfg (v : SlotIx) : (s.beginTx v).cfg = s.cfg := rfl
@[simp] theorem State.beginTx_lstate (v : SlotIx) : (s.beginTx v).lstate = s.lstate := rfl
@[simp] theorem State.beginTx_slots (v : SlotIx) : (s.beginTx v).slots = s.slots := rfl
@[simp] theorem State.beginTx_freeQ (v : SlotIx) : (s.beginTx v).freeQ = s.freeQ := rfl
@[simp] theorem State.beginTx_filledQ (v : SlotIx) : (s.beginTx v).filledQ = s.filledQ := rfl
@[simp] theorem State.beginTx_sndState (v : SlotIx) : (s.beginTx v).sndState = .tx := rfl
@[simp] theorem State.beginTx_sndSlot (v : SlotIx) : (s.beginTx v).sndSlot = v := rfl
@[simp] theorem State.beginTx_sndIdx (v : SlotIx) : (s.beginTx v).sndIdx = 0 := rfl
@[simp] theorem State.beginTx_owner (v : SlotIx) : (s.beginTx v).owner = .sender := rfl
@[simp] theorem State.beginTx_rxBuf (v : SlotIx) : (s.beginTx v).rxBuf = s.rxBuf := rfl
@[simp] theorem State.beginTx_rxCnt (v : SlotIx) : (s.beginTx v).rxCnt = s.rxCnt := rfl
@[simp] theorem State.beginTx_syncState (v : SlotIx) : (s.beginTx v).syncState = s.syncState := rfl
@[simp] theorem State.beginTx_syncTxRem (v : SlotIx) : (s.beginTx v).syncTxRem = s.syncTxRem := rfl
@[simp] theorem State.beginTx_hitCnt (v : SlotIx) : (s.beginTx v).hitCnt = s.hitCnt := rfl
@[simp] theorem State.beginTx_tmoCnt (v : SlotIx) : (s.beginTx v).tmoCnt = s.tmoCnt := rfl
@[simp] theorem State.beginTx_stats (v : SlotIx) : (s.beginTx v).stats = s.stats := rfl
@[simp] theorem State.beginTx_byteTimer (v : SlotIx) : (s.beginTx v).byteTimer = s.byteTimer := rfl
@[simp] theorem State.beginTx_inputs (v : SlotIx) : (s.beginTx v).inputs = s.inputs := rfl
@[simp] theorem State.beginTx_txOut (v : SlotIx) : (s.beginTx v).txOut = s.txOut := rfl
@[simp] theorem State.beginTx_rdOut (v : SlotIx) : (s.beginTx v).rdOut = s.rdOut := rfl

/-! ## advanceTx -/

@[simp] theorem State.advanceTx_cfg : (s.advanceTx).cfg = s.cfg := rfl
@[simp] theorem State.advanceTx_lstate : (s.advanceTx).lstate = s.lstate := rfl
@[simp] theorem State.advanceTx_slots : (s.advanceTx).slots = s.slots := rfl
@[simp] theorem State.advanceTx_freeQ : (s.advanceTx).freeQ = s.freeQ := rfl
@[simp] theorem State.advanceTx_filledQ : (s.advanceTx).filledQ = s.filledQ := rfl
@[simp] theorem State.advanceTx_sndState : (s.advanceTx).sndState = s.sndState := rfl
@[simp] theorem State.advanceTx_sndSlot : (s.advanceTx).sndSlot = s.sndSlot := rfl
@[simp] theorem State.advanceTx_sndIdx : (s.advanceTx).sndIdx = s.sndIdx + 1 := rfl
@[simp] theorem State.advanceTx_owner : (s.advanceTx).owner = s.owner := rfl
@[simp] theorem State.advanceTx_rxBuf : (s.advanceTx).rxBuf = s.rxBuf := rfl
@[simp] theorem State.advanceTx_rxCnt : (s.advanceTx).rxCnt = s.rxCnt := rfl
@[simp] theorem State.advanceTx_syncState : (s.advanceTx).syncState = s.syncState := rfl
@[simp] theorem State.advanceTx_syncTxRem : (s.advanceTx).syncTxRem = s.syncTxRem := rfl
@[simp] theorem State.advanceTx_hitCnt : (s.advanceTx).hitCnt = s.hitCnt := rfl
@[simp] theorem State.advanceTx_tmoCnt : (s.advanceTx).tmoCnt = s.tmoCnt := rfl
@[simp] theorem State.advanceTx_stats : (s.advanceTx).stats = s.stats := rfl
@[simp] theorem State.advanceTx_byteTimer : (s.advanceTx).byteTimer = s.byteTimer := rfl
@[simp] theorem State.advanceTx_inputs : (s.advanceTx).inputs = s.inputs := rfl
@[simp] theorem State.advanceTx_txOut : (s.advanceTx).txOut = s.txOut := rfl
@[simp] theorem State.advanceTx_rdOut : (s.advanceTx).rdOut = s.rdOut := rfl

/-! ## endTx -/

@[simp] theorem State.endTx_cfg : (s.endTx).cfg = s.cfg := rfl
@[simp] theorem State.endTx_lstate : (s.endTx).lstate = s.lstate := rfl
@[simp] theorem State.endTx_slots : (s.endTx).slots = s.slots := rfl
@[simp] theorem State.endTx_freeQ : (s.endTx).freeQ = s.freeQ := rfl
@[simp] theorem State.endTx_filledQ : (s.endTx).filledQ = s.filledQ := rfl
@[simp] theorem State.endTx_sndState : (s.endTx).sndState = .idle := rfl
@[simp] theorem State.endTx_sndSlot : (s.endTx).sndSlot = 0 := rfl
@[simp] theorem State.endTx_sndIdx : (s.endTx).sndIdx = 0 := rfl
@[simp] theorem State.endTx_owner : (s.endTx).owner = .none := rfl
@[simp] theorem State.endTx_rxBuf : (s.endTx).rxBuf = s.rxBuf := rfl
@[simp] theorem State.endTx_rxCnt : (s.endTx).rxCnt = s.rxCnt := rfl
@[simp] theorem State.endTx_syncState : (s.endTx).syncState = s.syncState := rfl
@[simp] theorem State.endTx_syncTxRem : (s.endTx).syncTxRem = s.syncTxRem := rfl
@[simp] theorem State.endTx_hitCnt : (s.endTx).hitCnt = s.hitCnt := rfl
@[simp] theorem State.endTx_tmoCnt : (s.endTx).tmoCnt = s.tmoCnt := rfl
@[simp] theorem State.endTx_stats : (s.endTx).stats = s.stats := rfl
@[simp] theorem State.endTx_byteTimer : (s.endTx).byteTimer = s.byteTimer := rfl
@[simp] theorem State.endTx_inputs : (s.endTx).inputs = s.inputs := rfl
@[simp] theorem State.endTx_txOut : (s.endTx).txOut = s.txOut := rfl
@[simp] theorem State.endTx_rdOut : (s.endTx).rdOut = s.rdOut := rfl

/-! ## countSent -/

@[simp] theorem State.countSent_cfg : (s.countSent).cfg = s.cfg := rfl
@[simp] theorem State.countSent_lstate : (s.countSent).lstate = s.lstate := rfl
@[simp] theorem State.countSent_slots : (s.countSent).slots = s.slots := rfl
@[simp] theorem State.countSent_freeQ : (s.countSent).freeQ = s.freeQ := rfl
@[simp] theorem State.countSent_filledQ : (s.countSent).filledQ = s.filledQ := rfl
@[simp] theorem State.countSent_sndState : (s.countSent).sndState = s.sndState := rfl
@[simp] theorem State.countSent_sndSlot : (s.countSent).sndSlot = s.sndSlot := rfl
@[simp] theorem State.countSent_sndIdx : (s.countSent).sndIdx = s.sndIdx := rfl
@[simp] theorem State.countSent_owner : (s.countSent).owner = s.owner := rfl
@[simp] theorem State.countSent_rxBuf : (s.countSent).rxBuf = s.rxBuf := rfl
@[simp] theorem State.countSent_rxCnt : (s.countSent).rxCnt = s.rxCnt := rfl
@[simp] theorem State.countSent_syncState : (s.countSent).syncState = s.syncState := rfl
@[simp] theorem State.countSent_syncTxRem : (s.countSent).syncTxRem = s.syncTxRem := rfl
@[simp] theorem State.countSent_hitCnt : (s.countSent).hitCnt = s.hitCnt := rfl
@[simp] theorem State.countSent_tmoCnt : (s.countSent).tmoCnt = s.tmoCnt := rfl
@[simp] theorem State.countSent_stats : (s.countSent).stats = { s.stats with sent := inc32 s.stats.sent } := rfl
@[simp] theorem State.countSent_byteTimer : (s.countSent).byteTimer = s.byteTimer := rfl
@[simp] theorem State.countSent_inputs : (s.countSent).inputs = s.inputs := rfl
@[simp] theorem State.countSent_txOut : (s.countSent).txOut = s.txOut := rfl
@[simp] theorem State.countSent_rdOut : (s.countSent).rdOut = s.rdOut := rfl

/-! ## countLost -/

@[simp] theorem State.countLost_cfg : (s.countLost).cfg = s.cfg := rfl
@[simp] theorem State.countLost_lstate : (s.countLost).lstate = s.lstate := rfl
@[simp] theorem State.countLost_slots : (s.countLost).slots = s.slots := rfl
@[simp] theorem State.countLost_freeQ : (s.countLost).freeQ = s.freeQ := rfl
@[simp] theorem State.countLost_filledQ : (s.countLost).filledQ = s.filledQ := rfl
@[simp] theorem State.countLost_sndState : (s.countLost).sndState = s.sndState := rfl
@[simp] theorem State.countLost_sndSlot : (s.countLost).sndSlot = s.sndSlot := rfl
@[simp] theorem State.countLost_sndIdx : (s.countLost).sndIdx = s.sndIdx := rfl
@[simp] theorem State.countLost_owner : (s.countLost).owner = s.owner := rfl
@[simp] theorem State.countLost_rxBuf : (s.countLost).rxBuf = s.rxBuf := rfl
@[simp] theorem State.countLost_rxCnt : (s.countLost).rxCnt = s.rxCnt := rfl
@[simp] theorem State.countLost_syncState : (s.countLost).syncState = s.syncState := rfl
@[simp] theorem State.countLost_syncTxRem : (s.countLost).syncTxRem = s.syncTxRem := rfl
@[simp] theorem State.countLost_hitCnt : (s.countLost).hitCnt = s.hitCnt := rfl
@[simp] theorem State.countLost_tmoCnt : (s.countLost).tmoCnt = s.tmoCnt := rfl
@[simp] theorem State.countLost_stats : (s.countLost).stats = { s.stats with lost := inc32 s.stats.lost } := rfl
@[simp] theorem State.countLost_byteTimer : (s.countLost).byteTimer = s.byteTimer := rfl
@[simp] theorem State.countLost_inputs : (s.countLost).inputs = s.inputs := rfl
@[simp] theorem State.countLost_txOut : (s.countLost).txOut = s.txOut := rfl
@[simp] theorem State.countLost_rdOut : (s.countLost).rdOut = s.rdOut := rfl

/-! ## countReceived -/

@[simp] theorem State.countReceived_cfg : (s.countReceived).cfg = s.cfg := rfl
@[simp] theorem State.countReceived_lstate : (s.countReceived).lstate = s.lstate := rfl
@[simp] theorem State.countReceived_slots : (s.countReceived).slots = s.slots := rfl
@[simp] theorem State.countReceived_freeQ : (s.countReceived).freeQ = s.freeQ := rfl
@[simp] theorem State.countReceived_filledQ : (s.countReceived).filledQ = s.filledQ := rfl
@[simp] theorem State.countReceived_sndState : (s.countReceived).sndState = s.sndState := rfl
@[simp] theorem State.countReceived_sndSlot : (s.countReceived).sndSlot = s.sndSlot := rfl
@[simp] theorem State.countReceived_sndIdx : (s.countReceived).sndIdx = s.sndIdx := rfl
@[simp] theorem State.countReceived_owner : (s.countReceived).owner = s.owner := rfl
@[simp] theorem State.countReceived_rxBuf : (s.countReceived).rxBuf = s.rxBuf := rfl
@[simp] theorem State.countReceived_rxCnt : (s.countReceived).rxCnt = s.rxCnt := rfl
@[simp] theorem State.countReceived_syncState : (s.countReceived).syncState = s.syncState := rfl
@[simp] theorem State.countReceived_syncTxRem : (s.countReceived).syncTxRem = s.syncTxRem := rfl
@[simp] theorem State.countReceived_hitCnt : (s.countReceived).hitCnt = s.hitCnt := rfl
@[simp] theorem State.countReceived_tmoCnt : (s.countReceived).tmoCnt = s.tmoCnt := rfl
@[simp] theorem State.countReceived_stats : (s.countReceived).stats = { s.stats with received := inc32 s.stats.received } := rfl
@[simp] theorem State.countReceived_byteTimer : (s.countReceived).byteTimer = s.byteTimer := rfl
@[simp] theorem State.countReceived_inputs : (s.countReceived).inputs = s.inputs := rfl
@[simp] theorem State.countReceived_txOut : (s.countReceived).txOut = s.txOut := rfl
@[simp] theorem State.countReceived_rdOut : (s.countReceived).rdOut = s.rdOut := rfl

/-! ## grantSync -/

@[simp] theorem State.grantSync_cfg : (s.grantSync).cfg = s.cfg := rfl
@[simp] theorem State.grantSync_lstate : (s.grantSync).lstate = s.lstate := rfl
@[simp] theorem State.grantSync_slots : (s.grantSync).slots = s.slots := rfl
@[simp] theorem State.grantSync_freeQ : (s.grantSync).freeQ = s.freeQ := rfl
@[simp] theorem State.grantSync_filledQ : (s.grantSync).filledQ = s.filledQ := rfl
@[simp] theorem State.grantSync_sndState : (s.grantSync).sndState = s.sndState := rfl
@[simp] theorem State.grantSync_sndSlot : (s.grantSync).sndSlot = s.sndSlot := rfl
@[simp] theorem State.grantSync_sndIdx : (s.grantSync).sndIdx = s.sndIdx := rfl
@[simp] theorem State.grantSync_owner : (s.grantSync).owner = .sync := rfl
@[simp] theorem State.grantSync_rxBuf : (s.grantSync).rxBuf = s.rxBuf := rfl
@[simp] theorem State.grantSync_rxCnt : (s.grantSync).rxCnt = s.rxCnt := rfl
@[simp] theorem State.grantSync_syncState : (s.grantSync).syncState = .resync := rfl
@[simp] theorem State.grantSync_syncTxRem : (s.grantSync).syncTxRem = 15 := rfl
@[simp] theorem State.grantSync_hitCnt : (s.grantSync).hitCnt = 0 := rfl
@[simp] theorem State.grantSync_tmoCnt : (s.grantSync).tmoCnt = 0 := rfl
@[simp] theorem State.grantSync_stats : (s.grantSync).stats = s.stats := rfl
@[simp] theorem State.grantSync_byteTimer : (s.grantSync).byteTimer = s.byteTimer := rfl
@[simp] theorem State.grantSync_inputs : (s.grantSync).inputs = s.inputs := rfl
@[simp] theorem State.grantSync_txOut : (s.grantSync).txOut = s.txOut := rfl
@[simp] theorem State.grantSync_rdOut : (s.grantSync).rdOut = s.rdOut := rfl

/-! ## countTriggered -/

@[simp] theorem State.countTriggered_cfg : (s.countTriggered).cfg = s.cfg := rfl
@[simp] theorem State.countTriggered_lstate : (s.countTriggered).lstate = s.lstate := rfl
@[simp] theorem State.countTriggered_slots : (s.countTriggered).slots = s.slots := rfl
@[simp] theorem State.countTriggered_freeQ : (s.countTriggered).freeQ = s.freeQ := rfl
@[simp] theorem State.countTriggered_filledQ : (s.countTriggered).filledQ = s.filledQ := rfl
@[simp] theorem State.countTriggered_sndState : (s.countTriggered).sndState = s.sndState := rfl
@[simp] theorem State.countTriggered_sndSlot : (s.countTriggered).sndSlot = s.sndSlot := rfl
@[simp] theorem State.countTriggered_sndIdx : (s.countTriggered).sndIdx = s.sndIdx := rfl
@[simp] theorem State.countTriggered_owner : (s.countTriggered).owner = s.owner := rfl
@[simp] theorem State.countTriggered_rxBuf : (s.countTriggered).rxBuf = s.rxBuf := rfl
@[simp] theorem State.countTriggered_rxCnt : (s.countTriggered).rxCnt = s.rxCnt := rfl
@[simp] theorem State.countTriggered_syncState : (s.countTriggered).syncState = s.syncState := rfl
@[simp] theorem State.countTriggered_syncTxRem : (s.countTriggered).syncTxRem = s.syncTxRem := rfl
@[simp] theorem State.countTriggered_hitCnt : (s.countTriggered).hitCnt = s.hitCnt := rfl
@[simp] theorem State.countTriggered_tmoCnt : (s.countTriggered).tmoCnt = s.tmoCnt := rfl
@[simp] theorem State.countTriggered_stats : (s.countTriggered).stats = { s.stats with syncTriggered := inc32 s.stats.syncTriggered } := rfl
@[simp] theorem State.countTriggered_byteTimer : (s.countTriggered).byteTimer = s.byteTimer := rfl
@[simp] theorem State.countTriggered_inputs : (s.countTriggered).inputs = s.inputs := rfl
@[simp] theorem State.countTriggered_txOut : (s.countTriggered).txOut = s.txOut := rfl
@[simp] theorem State.countTriggered_rdOut : (s.countTriggered).rdOut = s.rdOut := rfl

/-! ## countSyncFrame -/

@[simp] theorem State.countSyncFrame_cfg : (s.countSyncFrame).cfg = s.cfg := rfl
@[simp] theorem State.countSyncFrame_lstate : (s.countSyncFrame).lstate = s.lstate := rfl
@[simp] theorem State.countSyncFrame_slots : (s.countSyncFrame).slots = s.slots := rfl
@[simp] theorem State.countSyncFrame_freeQ : (s.countSyncFrame).freeQ = s.freeQ := rfl
@[simp] theorem State.countSyncFrame_filledQ : (s.countSyncFrame).filledQ = s.filledQ := rfl
@[simp] theorem State.countSyncFrame_sndState : (s.countSyncFrame).sndState = s.sndState := rfl
@[simp] theorem State.countSyncFrame_sndSlot : (s.countSyncFrame).sndSlot = s.sndSlot := rfl
@[simp] theorem State.countSyncFrame_sndIdx : (s.countSyncFrame).sndIdx = s.sndIdx := rfl
@[simp] theorem State.countSyncFrame_owner : (s.countSyncFrame).owner = s.owner := rfl
@[simp] theorem State.countSyncFrame_rxBuf : (s.countSyncFrame).rxBuf = s.rxBuf := rfl
@[simp] theorem State.countSyncFrame_rxCnt : (s.countSyncFrame).rxCnt = s.rxCnt := rfl
@[simp] theorem State.countSyncFrame_syncState : (s.countSyncFrame).syncState = s.syncState := rfl
@[simp] theorem State.countSyncFrame_syncTxRem : (s.countSyncFrame).syncTxRem = s.syncTxRem := rfl
@[simp] theorem State.countSyncFrame_hitCnt : (s.countSyncFrame).hitCnt = s.hitCnt := rfl
@[simp] theorem State.countSyncFrame_tmoCnt : (s.countSyncFrame).tmoCnt = s.tmoCnt := rfl
@[simp] theorem State.countSyncFrame_stats : (s.countSyncFrame).stats = { s.stats with syncFramesSent := inc32 s.stats.syncFramesSent } := rfl
@[simp] theorem State.countSyncFrame_byteTimer : (s.countSyncFrame).byteTimer = s.byteTimer := rfl
@[simp] theorem State.countSyncFrame_inputs : (s.countSyncFrame).inputs = s.inputs := rfl
@[simp] theorem State.countSyncFrame_txOut : (s.countSyncFrame).txOut = s.txOut := rfl
@[simp] theorem State.countSyncFrame_rdOut : (s.countSyncFrame).rdOut = s.rdOut := rfl

/-! ## syncByteSent -/

@[simp] theorem State.syncByteSent_cfg : (s.syncByteSent).cfg = s.cfg := rfl
@[simp] theorem State.syncByteSent_lstate : (s.syncByteSent).lstate = s.lstate := rfl
@[simp] theorem State.syncByteSent_slots : (s.syncByteSent).slots = s.slots := rfl
@[simp] theorem State.syncByteSent_freeQ : (s.syncByteSent).freeQ = s.freeQ := rfl
@[simp] theorem State.syncByteSent_filledQ : (s.syncByteSent).filledQ = s.filledQ := rfl
@[simp] theorem State.syncByteSent_sndState : (s.syncByteSent).sndState = s.sndState := rfl
@[simp] theorem State.syncByteSent_sndSlot : (s.syncByteSent).sndSlot = s.sndSlot := rfl
@[simp] theorem State.syncByteSent_sndIdx : (s.syncByteSent).sndIdx = s.sndIdx := rfl
@[simp] theorem State.syncByteSent_owner : (s.syncByteSent).owner = s.owner := rfl
@[simp] theorem State.syncByteSent_rxBuf : (s.syncByteSent).rxBuf = s.rxBuf := rfl
@[simp] theorem State.syncByteSent_rxCnt : (s.syncByteSent).rxCnt = s.rxCnt := rfl
@[simp] theorem State.syncByteSent_syncState : (s.syncByteSent).syncState = s.syncState := rfl
@[simp] theorem State.syncByteSent_syncTxRem : (s.syncByteSent).syncTxRem = s.syncTxRem - 1 := rfl
@[simp] theorem State.syncByteSent_hitCnt : (s.syncByteSent).hitCnt = s.hitCnt := rfl
@[simp] theorem State.syncByteSent_tmoCnt : (s.syncByteSent).tmoCnt = s.tmoCnt := rfl
@[simp] theorem State.syncByteSent_stats : (s.syncByteSent).stats = s.stats := rfl
@[simp] theorem State.syncByteSent_byteTimer : (s.syncByteSent).byteTimer = s.byteTimer := rfl
@[simp] theorem State.syncByteSent_inputs : (s.syncByteSent).inputs = s.inputs := rfl
@[simp] theorem State.syncByteSent_txOut : (s.syncByteSent).txOut = s.txOut := rfl
@[simp] theorem State.syncByteSent_rdOut : (s.syncByteSent).rdOut = s.rdOut := rfl

/-! ## rxPut -/

@[simp] theorem State.rxPut_cfg (b : Byte) : (s.rxPut b).cfg = s.cfg := rfl
@[simp] theorem State.rxPut_lstate (b : Byte) : (s.rxPut b).lstate = s.lstate := rfl
@[simp] theorem State.rxPut_slots (b : Byte) : (s.rxPut b).slots = s.slots := rfl
@[simp] theorem State.rxPut_freeQ (b : Byte) : (s.rxPut b).freeQ = s.freeQ := rfl
@[simp] theorem State.rxPut_filledQ (b : Byte) : (s.rxPut b).filledQ = s.filledQ := rfl
@[simp] theorem State.rxPut_sndState (b : Byte) : (s.rxPut b).sndState = s.sndState := rfl
@[simp] theorem State.rxPut_sndSlot (b : Byte) : (s.rxPut b).sndSlot = s.sndSlot := rfl
@[simp] theorem State.rxPut_sndIdx (b : Byte) : (s.rxPut b).sndIdx = s.sndIdx := rfl
@[simp] theorem State.rxPut_owner (b : Byte) : (s.rxPut b).owner = s.owner := rfl
@[simp] theorem State.rxPut_rxBuf (b : Byte) : (s.rxPut b).rxBuf = s.rxBuf.write s.rxCnt.toNat b := rfl
@[simp] theorem State.rxPut_rxCnt (b : Byte) : (s.rxPut b).rxCnt = s.rxCnt := rfl
@[simp] theorem State.rxPut_syncState (b : Byte) : (s.rxPut b).syncState = s.syncState := rfl
@[simp] theorem State.rxPut_syncTxRem (b : Byte) : (s.rxPut b).syncTxRem = s.syncTxRem := rfl
@[simp] theorem State.rxPut_hitCnt (b : Byte) : (s.rxPut b).hitCnt = s.hitCnt := rfl
@[simp] theorem State.rxPut_tmoCnt (b : Byte) : (s.rxPut b).tmoCnt = s.tmoCnt := rfl
@[simp] theorem State.rxPut_stats (b : Byte) : (s.rxPut b).stats = s.stats := rfl
@[simp] theorem State.rxPut_byteTimer (b : Byte) : (s.rxPut b).byteTimer = s.byteTimer := rfl
@[simp] theorem State.rxPut_inputs (b : Byte) : (s.rxPut b).inputs = s.inputs := rfl
@[simp] theorem State.rxPut_txOut (b : Byte) : (s.rxPut b).txOut = s.txOut := rfl
@[simp] theorem State.rxPut_rdOut (b : Byte) : (s.rxPut b).rdOut = s.rdOut := rfl

/-! ## rxAdvance -/

@[simp] theorem State.rxAdvance_cfg : (s.rxAdvance).cfg = s.cfg := rfl
@[simp] theorem State.rxAdvance_lstate : (s.rxAdvance).lstate = s.lstate := rfl
@[simp] theorem State.rxAdvance_slots : (s.rxAdvance).slots = s.slots := rfl
@[simp] theorem State.rxAdvance_freeQ : (s.rxAdvance).freeQ = s.freeQ := rfl
@[simp] theorem State.rxAdvance_filledQ : (s.rxAdvance).filledQ = s.filledQ := rfl
@[simp] theorem State.rxAdvance_sndState : (s.rxAdvance).sndState = s.sndState := rfl
@[simp] theorem State.rxAdvance_sndSlot : (s.rxAdvance).sndSlot = s.sndSlot := rfl
@[simp] theorem State.rxAdvance_sndIdx : (s.rxAdvance).sndIdx = s.sndIdx := rfl
@[simp] theorem State.rxAdvance_owner : (s.rxAdvance).owner = s.owner := rfl
@[simp] theorem State.rxAdvance_rxBuf : (s.rxAdvance).rxBuf = s.rxBuf := rfl
@[simp] theorem State.rxAdvance_rxCnt : (s.rxAdvance).rxCnt = s.rxCnt + 1 := rfl
@[simp] theorem State.rxAdvance_syncState : (s.rxAdvance).syncState = s.syncState := rfl
@[simp] theorem State.rxAdvance_syncTxRem : (s.rxAdvance).syncTxRem = s.syncTxRem := rfl
@[simp] theorem State.rxAdvance_hitCnt : (s.rxAdvance).hitCnt = s.hitCnt := rfl
@[simp] theorem State.rxAdvance_tmoCnt : (s.rxAdvance).tmoCnt = s.tmoCnt := rfl
@[simp] theorem State.rxAdvance_stats : (s.rxAdvance).stats = s.stats := rfl
@[simp] theorem State.rxAdvance_byteTimer : (s.rxAdvance).byteTimer = s.byteTimer := rfl
@[simp] theorem State.rxAdvance_inputs : (s.rxAdvance).inputs = s.inputs := rfl
@[simp] theorem State.rxAdvance_txOut : (s.rxAdvance).txOut = s.txOut := rfl
@[simp] theorem State.rxAdvance_rdOut : (s.rxAdvance).rdOut = s.rdOut := rfl

/-! ## rxRestart -/

@[simp] theorem State.rxRestart_cfg : (s.rxRestart).cfg = s.cfg := rfl
@[simp] theorem State.rxRestart_lstate : (s.rxRestart).lstate = s.lstate := rfl
@[simp] theorem State.rxRestart_slots : (s.rxRestart).slots = s.slots := rfl
@[simp] theorem State.rxRestart_freeQ : (s.rxRestart).freeQ = s.freeQ := rfl
@[simp] theorem State.rxRestart_filledQ : (s.rxRestart).filledQ = s.filledQ := rfl
@[simp] theorem State.rxRestart_sndState : (s.rxRestart).sndState = s.sndState := rfl
@[simp] theorem State.rxRestart_sndSlot : (s.rxRestart).sndSlot = s.sndSlot := rfl
@[simp] theorem State.rxRestart_sndIdx : (s.rxRestart).sndIdx = s.sndIdx := rfl
@[simp] theorem State.rxRestart_owner : (s.rxRestart).owner = s.owner := rfl
@[simp] theorem State.rxRestart_rxBuf : (s.rxRestart).rxBuf = s.rxBuf := rfl
@[simp] theorem State.rxRestart_rxCnt : (s.rxRestart).rxCnt = 0 := rfl
@[simp] theorem State.rxRestart_syncState : (s.rxRestart).syncState = s.syncState := rfl
@[simp] theorem State.rxRestart_syncTxRem : (s.rxRestart).syncTxRem = s.syncTxRem := rfl
@[simp] theorem State.rxRestart_hitCnt : (s.rxRestart).hitCnt = s.hitCnt := rfl
@[simp] theorem State.rxRestart_tmoCnt : (s.rxRestart).tmoCnt = s.tmoCnt := rfl
@[simp] theorem State.rxRestart_stats : (s.rxRestart).stats = s.stats := rfl
@[simp] theorem State.rxRestart_byteTimer : (s.rxRestart).byteTimer = s.byteTimer := rfl
@[simp] theorem State.rxRestart_inputs : (s.rxRestart).inputs = s.inputs := rfl
@[simp] theorem State.rxRestart_txOut : (s.rxRestart).txOut = s.txOut := rfl
@[simp] theorem State.rxRestart_rdOut : (s.rxRestart).rdOut = s.rdOut := rfl

/-! ## tick -/

@[simp] theorem State.tick_cfg : (s.tick).cfg = s.cfg := rfl
@[simp] theorem State.tick_lstate : (s.tick).lstate = s.lstate := rfl
@[simp] theorem State.tick_slots : (s.tick).slots = s.slots := rfl
@[simp] theorem State.tick_freeQ : (s.tick).freeQ = s.freeQ := rfl
@[simp] theorem State.tick_filledQ : (s.tick).filledQ = s.filledQ := rfl
@[simp] theorem State.tick_sndState : (s.tick).sndState = s.sndState := rfl
@[simp] theorem State.tick_sndSlot : (s.tick).sndSlot = s.sndSlot := rfl
@[simp] theorem State.tick_sndIdx : (s.tick).sndIdx = s.sndIdx := rfl
@[simp] theorem State.tick_owner : (s.tick).owner = s.owner := rfl
@[simp] theorem State.tick_rxBuf : (s.tick).rxBuf = s.rxBuf := rfl
@[simp] theorem State.tick_rxCnt : (s.tick).rxCnt = s.rxCnt := rfl
@[simp] theorem State.tick_syncState : (s.tick).syncState = s.syncState := rfl
@[simp] theorem State.tick_syncTxRem : (s.tick).syncTxRem = s.syncTxRem := rfl
@[simp] theorem State.tick_hitCnt : (s.tick).hitCnt = s.hitCnt := rfl
@[simp] theorem State.tick_tmoCnt : (s.tick).tmoCnt = s.tmoCnt + 1 := rfl
@[simp] theorem State.tick_stats : (s.tick).stats = { s.stats with syncTmoTicks := inc32 s.stats.syncTmoTicks } := rfl
@[simp] theorem State.tick_byteTimer : (s.tick).byteTimer = s.byteTimer := rfl
@[simp] theorem State.tick_inputs : (s.tick).inputs = s.inputs := rfl
@[simp] theorem State.tick_txOut : (s.tick).txOut = s.txOut := rfl
@[simp] theorem State.tick_rdOut : (s.tick).rdOut = s.rdOut := rfl

/-! ## hit -/

@[simp] theorem State.hit_cfg : (s.hit).cfg = s.cfg := rfl
@[simp] theorem State.hit_lstate : (s.hit).lstate = s.lstate := rfl
@[simp] theorem State.hit_slots : (s.hit).slots = s.slots := rfl
@[simp] theorem State.hit_freeQ : (s.hit).freeQ = s.freeQ := rfl
@[simp] theorem State.hit_filledQ : (s.hit).filledQ = s.filledQ := rfl
@[simp] theorem State.hit_sndState : (s.hit).sndState = s.sndState := rfl
@[simp] theorem State.hit_sndSlot : (s.hit).sndSlot = s.sndSlot := rfl
@[simp] theorem State.hit_sndIdx : (s.hit).sndIdx = s.sndIdx := rfl
@[simp] theorem State.hit_owner : (s.hit).owner = s.owner := rfl
@[simp] theorem State.hit_rxBuf : (s.hit).rxBuf = s.rxBuf := rfl
@[simp] theorem State.hit_rxCnt : (s.hit).rxCnt = s.rxCnt := rfl
@[simp] theorem State.hit_syncState : (s.hit).syncState = s.syncState := rfl
@[simp] theorem State.hit_syncTxRem : (s.hit).syncTxRem = s.syncTxRem := rfl
@[simp] theorem State.hit_hitCnt : (s.hit).hitCnt = s.hitCnt + 1 := rfl
@[simp] theorem State.hit_tmoCnt : (s.hit).tmoCnt = s.tmoCnt := rfl
@[simp] theorem State.hit_stats : (s.hit).stats = s.stats := rfl
@[simp] theorem State.hit_byteTimer : (s.hit).byteTimer = s.byteTimer := rfl
@[simp] theorem State.hit_inputs : (s.hit).inputs = s.inputs := rfl
@[simp] theorem State.hit_txOut : (s.hit).txOut = s.txOut := rfl
@[simp] theorem State.hit_rdOut : (s.hit).rdOut = s.rdOut := rfl

/-! ## clearHits -/

@[simp] theorem State.clearHits_cfg : (s.clearHits).cfg = s.cfg := rfl
@[simp] theorem State.clearHits_lstate : (s.clearHits).lstate = s.lstate := rfl
@[simp] theorem State.clearHits_slots : (s.clearHits).slots = s.slots := rfl
@[simp] theorem State.clearHits_freeQ : (s.clearHits).freeQ = s.freeQ := rfl
@[simp] theorem State.clearHits_filledQ : (s.clearHits).filledQ = s.filledQ := rfl
@[simp] theorem State.clearHits_sndState : (s.clearHits).sndState = s.sndState := rfl
@[simp] theorem State.clearHits_sndSlot : (s.clearHits).sndSlot = s.sndSlot := rfl
@[simp] theorem State.clearHits_sndIdx : (s.clearHits).sndIdx = s.sndIdx := rfl
@[simp] theorem State.clearHits_owner : (s.clearHits).owner = s.owner := rfl
@[simp] theorem State.clearHits_rxBuf : (s.clearHits).rxBuf = s.rxBuf := rfl
@[simp] theorem State.clearHits_rxCnt : (s.clearHits).rxCnt = s.rxCnt := rfl
@[simp] theorem State.clearHits_syncState : (s.clearHits).syncState = s.syncState := rfl
@[simp] theorem State.clearHits_syncTxRem : (s.clearHits).syncTxRem = s.syncTxRem := rfl
@[simp] theorem State.clearHits_hitCnt : (s.clearHits).hitCnt = 0 := rfl
@[simp] theorem State.clearHits_tmoCnt : (s.clearHits).tmoCnt = s.tmoCnt := rfl
@[simp] theorem State.clearHits_stats : (s.clearHits).stats = s.stats := rfl
@[simp] theorem State.clearHits_byteTimer : (s.clearHits).byteTimer = s.byteTimer := rfl
@[simp] theorem State.clearHits_inputs : (s.clearHits).inputs = s.inputs := rfl
@[simp] theorem State.clearHits_txOut : (s.clearHits).txOut = s.txOut := rfl
@[simp] theorem State.clearHits_rdOut : (s.clearHits).rdOut = s.rdOut := rfl

/-! ## enterResync -/

@[simp] theorem State.enterResync_cfg : (s.enterResync).cfg = s.cfg := rfl
@[simp] theorem State.enterResync_lstate : (s.enterResync).lstate = s.lstate := rfl
@[simp] theorem State.enterResync_slots : (s.enterResync).slots = s.slots := rfl
@[simp] theorem State.enterResync_freeQ : (s.enterResync).freeQ = s.freeQ := rfl
@[simp] theorem State.enterResync_filledQ : (s.enterResync).filledQ = s.filledQ := rfl
@[simp] theorem State.enterResync_sndState : (s.enterResync).sndState = s.sndState := rfl
@[simp] theorem State.enterResync_sndSlot : (s.enterResync).sndSlot = s.sndSlot := rfl
@[simp] theorem State.enterResync_sndIdx : (s.enterResync).sndIdx = s.sndIdx := rfl
@[simp] theorem State.enterResync_owner : (s.enterResync).owner = s.owner := rfl
@[simp] theorem State.enterResync_rxBuf : (s.enterResync).rxBuf = s.rxBuf := rfl
@[simp] theorem State.enterResync_rxCnt : (s.enterResync).rxCnt = s.rxCnt := rfl
@[simp] theorem State.enterResync_syncState : (s.enterResync).syncState = .waitGrant := rfl
@[simp] theorem State.enterResync_syncTxRem : (s.enterResync).syncTxRem = s.syncTxRem := rfl
@[simp] theorem State.enterResync_hitCnt : (s.enterResync).hitCnt = s.hitCnt := rfl
@[simp] theorem State.enterResync_tmoCnt : (s.enterResync).tmoCnt = s.tmoCnt := rfl
@[simp] theorem State.enterResync_stats : (s.enterResync).stats = s.stats := rfl
@[simp] theorem State.enterResync_byteTimer : (s.enterResync).byteTimer = s.byteTimer := rfl
@[simp] theorem State.enterResync_inputs : (s.enterResync).inputs = s.inputs := rfl
@[simp] theorem State.enterResync_txOut : (s.enterResync).txOut = s.txOut := rfl
@[simp] theorem State.enterResync_rdOut : (s.enterResync).rdOut = s.rdOut := rfl

/-! ## terminate -/

@[simp] theorem State.terminate_cfg : (s.terminate).cfg = s.cfg := rfl
@[simp] theorem State.terminate_lstate : (s.terminate).lstate = s.lstate := rfl
@[simp] theorem State.terminate_slots : (s.terminate).slots = s.slots := rfl
@[simp] theorem State.terminate_freeQ : (s.terminate).freeQ = s.freeQ := rfl
@[simp] theorem State.terminate_filledQ : (s.terminate).filledQ = s.filledQ := rfl
@[simp] theorem State.terminate_sndState : (s.terminate).sndState = s.sndState := rfl
@[simp] theorem State.terminate_sndSlot : (s.terminate).sndSlot = s.sndSlot := rfl
@[simp] theorem State.terminate_sndIdx : (s.terminate).sndIdx = s.sndIdx := rfl
@[simp] theorem State.terminate_owner : (s.terminate).owner = .none := rfl
@[simp] theorem State.terminate_rxBuf : (s.terminate).rxBuf = s.rxBuf := rfl
@[simp] theorem State.terminate_rxCnt : (s.terminate).rxCnt = 0 := rfl
@[simp] theorem State.terminate_syncState : (s.terminate).syncState = .synced := rfl
@[simp] theorem State.terminate_syncTxRem : (s.terminate).syncTxRem = s.syncTxRem := rfl
@[simp] theorem State.terminate_hitCnt : (s.terminate).hitCnt = 0 := rfl
@[simp] theorem State.terminate_tmoCnt : (s.terminate).tmoCnt = 0 := rfl
@[simp] theorem State.terminate_stats : (s.terminate).stats = s.stats := rfl
@[simp] theorem State.terminate_byteTimer : (s.terminate).byteTimer = s.byteTimer := rfl
@[simp] theorem State.terminate_inputs : (s.terminate).inputs = s.inputs := rfl
@[simp] theorem State.terminate_txOut : (s.terminate).txOut = s.txOut := rfl
@[simp] theorem State.terminate_rdOut : (s.terminate).rdOut = s.rdOut := rfl

/-! ## resendSync -/

@[simp] theorem State.resendSync_cfg : (s.resendSync).cfg = s.cfg := rfl
@[simp] theorem State.resendSync_lstate : (s.resendSync).lstate = s.lstate := rfl
@[simp] theorem State.resendSync_slots : (s.resendSync).slots = s.slots := rfl
@[simp] theorem State.resendSync_freeQ : (s.resendSync).freeQ = s.freeQ := rfl
@[simp] theorem State.resendSync_filledQ : (s.resendSync).filledQ = s.filledQ := rfl
@[simp] theorem State.resendSync_sndState : (s.resendSync).sndState = s.sndState := rfl
@[simp] theorem State.resendSync_sndSlot : (s.resendSync).sndSlot = s.sndSlot := rfl
@[simp] theorem State.resendSync_sndIdx : (s.resendSync).sndIdx = s.sndIdx := rfl
@[simp] theorem State.resendSync_owner : (s.resendSync).owner = s.owner := rfl
@[simp] theorem State.resendSync_rxBuf : (s.resendSync).rxBuf = s.rxBuf := rfl
@[simp] theorem State.resendSync_rxCnt : (s.resendSync).rxCnt = s.rxCnt := rfl
@[simp] theorem State.resendSync_syncState : (s.resendSync).syncState = s.syncState := rfl
@[simp] theorem State.resendSync_syncTxRem : (s.resendSync).syncTxRem = 15 := rfl
@[simp] theorem State.resendSync_hitCnt : (s.resendSync).hitCnt = s.hitCnt := rfl
@[simp] theorem State.resendSync_tmoCnt : (s.resendSync).tmoCnt = 0 := rfl
@[simp] theorem State.resendSync_stats : (s.resendSync).stats = s.stats := rfl
@[simp] theorem State.resendSync_byteTimer : (s.resendSync).byteTimer = s.byteTimer := rfl
@[simp] theorem State.resendSync_inputs : (s.resendSync).inputs = s.inputs := rfl
@[simp] theorem State.resendSync_txOut : (s.resendSync).txOut = s.txOut := rfl
@[simp] theorem State.resendSync_rdOut : (s.resendSync).rdOut = s.rdOut := rfl

/-! ## setTimer -/

@[simp] theorem State.setTimer_cfg (n : Nat) : (s.setTimer n).cfg = s.cfg := rfl
@[simp] theorem State.setTimer_lstate (n : Nat) : (s.setTimer n).lstate = s.lstate := rfl
@[simp] theorem State.setTimer_slots (n : Nat) : (s.setTimer n).slots = s.slots := rfl
@[simp] theorem State.setTimer_freeQ (n : Nat) : (s.setTimer n).freeQ = s.freeQ := rfl
@[simp] theorem State.setTimer_filledQ (n : Nat) : (s.setTimer n).filledQ = s.filledQ := rfl
@[simp] theorem State.setTimer_sndState (n : Nat) : (s.setTimer n).sndState = s.sndState := rfl
@[simp] theorem State.setTimer_sndSlot (n : Nat) : (s.setTimer n).sndSlot = s.sndSlot := rfl
@[simp] theorem State.setTimer_sndIdx (n : Nat) : (s.setTimer n).sndIdx = s.sndIdx := rfl
@[simp] theorem State.setTimer_owner (n : Nat) : (s.setTimer n).owner = s.owner := rfl
@[simp] theorem State.setTimer_rxBuf (n : Nat) : (s.setTimer n).rxBuf = s.rxBuf := rfl
@[simp] theorem State.setTimer_rxCnt (n : Nat) : (s.setTimer n).rxCnt = s.rxCnt := rfl
@[simp] theorem State.setTimer_syncState (n : Nat) : (s.setTimer n).syncState = s.syncState := rfl
@[simp] theorem State.setTimer_syncTxRem (n : Nat) : (s.setTimer n).syncTxRem = s.syncTxRem := rfl
@[simp] theorem State.setTimer_hitCnt (n : Nat) : (s.setTimer n).hitCnt = s.hitCnt := rfl
@[simp] theorem State.setTimer_tmoCnt (n : Nat) : (s.setTimer n).tmoCnt = s.tmoCnt := rfl
@[simp] theorem State.setTimer_stats (n : Nat) : (s.setTimer n).stats = s.stats := rfl
@[simp] theorem State.setTimer_byteTimer (n : Nat) : (s.setTimer n).byteTimer = n := rfl
@[simp] theorem State.setTimer_inputs (n : Nat) : (s.setTimer n).inputs = s.inputs := rfl
@[simp] theorem State.setTimer_txOut (n : Nat) : (s.setTimer n).txOut = s.txOut := rfl
@[simp] theorem State.setTimer_rdOut (n : Nat) : (s.setTimer n).rdOut = s.rdOut := rfl

/-! ## setInputs -/

@[simp] theorem State.setInputs_cfg (l : List Input) : (s.setInputs l).cfg = s.cfg := rfl
@[simp] theorem State.setInputs_lstate (l : List Input) : (s.setInputs l).lstate = s.lstate := rfl
@[simp] theorem State.setInputs_slots (l : List Input) : (s.setInputs l).slots = s.slots := rfl
@[simp] theorem State.setInputs_freeQ (l : List Input) : (s.setInputs l).freeQ = s.freeQ := rfl
@[simp] theorem State.setInputs_filledQ (l : List Input) : (s.setInputs l).filledQ = s.filledQ := rfl
@[simp] theorem State.setInputs_sndState (l : List Input) : (s.setInputs l).sndState = s.sndState := rfl
@[simp] theorem State.setInputs_sndSlot (l : List Input) : (s.setInputs l).sndSlot = s.sndSlot := rfl
@[simp] theorem State.setInputs_sndIdx (l : List Input) : (s.setInputs l).sndIdx = s.sndIdx := rfl
@[simp] theorem State.setInputs_owner (l : List Input) : (s.setInputs l).owner = s.owner := rfl
@[simp] theorem State.setInputs_rxBuf (l : List Input) : (s.setInputs l).rxBuf = s.rxBuf := rfl
@[simp] theorem State.setInputs_rxCnt (l : List Input) : (s.setInputs l).rxCnt = s.rxCnt := rfl
@[simp] theorem State.setInputs_syncState (l : List Input) : (s.setInputs l).syncState = s.syncState := rfl
@[simp] theorem State.setInputs_syncTxRem (l : List Input) : (s.setInputs l).syncTxRem = s.syncTxRem := rfl
@[simp] theorem State.setInputs_hitCnt (l : List Input) : (s.setInputs l).hitCnt = s.hitCnt := rfl
@[simp] theorem State.setInputs_tmoCnt (l : List Input) : (s.setInputs l).tmoCnt = s.tmoCnt := rfl
@[simp] theorem State.setInputs_stats (l : List Input) : (s.setInputs l).stats = s.stats := rfl
@[simp] theorem State.setInputs_byteTimer (l : List Input) : (s.setInputs l).byteTimer = s.byteTimer := rfl
@[simp] theorem State.setInputs_inputs (l : List Input) : (s.setInputs l).inputs = l := rfl
@[simp] theorem State.setInputs_txOut (l : List Input) : (s.setInputs l).txOut = s.txOut := rfl
@[simp] theorem State.setInputs_rdOut (l : List Input) : (s.setInputs l).rdOut = s.rdOut := rfl

end Sys2Proof.Machine
end

