-- ==== Sys2Proof/Laws/Ops.lean ====
section
/-! SUPPORT. What each shared operation and each meaning does when it answers a next state, said once. -/

namespace Sys2Proof.Machine

/-! ## FIFO primitives -/

theorem push_eq_ok {cap : Nat} {q q' : List SlotIx} {v : SlotIx} :
    push cap q v = .ok q' ↔ q.length < cap ∧ v ∉ q ∧ q' = q ++ [v] := by
  unfold push
  split
  · rename_i h; simp only [reduceCtorEq, false_iff]; omega
  · split
    · simp_all
    · simp_all [eq_comm]

theorem acquireFree_eq_ok {s : State} {r : SlotIx × State} :
    acquireFree s = .ok r ↔ ∃ v q, s.freeQ = v :: q ∧ r = (v, s.setFreeQ q) := by
  unfold acquireFree
  cases h : s.freeQ with
  | nil => simp [pop, bind, Except.bind]
  | cons v q => simp [pop, bind, Except.bind, pure, Except.pure, eq_comm]

theorem dequeueFilled_eq_ok {s : State} {r : SlotIx × State} :
    dequeueFilled s = .ok r ↔ ∃ v q, s.filledQ = v :: q ∧ r = (v, s.setFilledQ q) := by
  unfold dequeueFilled
  cases h : s.filledQ with
  | nil => simp [pop, bind, Except.bind]
  | cons v q => simp [pop, bind, Except.bind, pure, Except.pure, eq_comm]

theorem enqueueFilled_eq_ok {v : SlotIx} {s t : State} :
    enqueueFilled v s = .ok t ↔
      s.filledQ.length < s.cfg.nSlots ∧ v ∉ s.filledQ ∧ t = s.setFilledQ (s.filledQ ++ [v]) := by
  unfold enqueueFilled
  cases h : push s.cfg.nSlots s.filledQ v with
  | error f =>
    have : ¬(s.filledQ.length < s.cfg.nSlots ∧ v ∉ s.filledQ) := fun hc => by
      rw [push_eq_ok.2 ⟨hc.1, hc.2, rfl⟩] at h; cases h
    simp only [bind, Except.bind, reduceCtorEq, false_iff]; tauto
  | ok q =>
    obtain ⟨h₁, h₂, rfl⟩ := push_eq_ok.1 h
    simp [bind, Except.bind, pure, Except.pure, h₁, h₂, eq_comm]

theorem releaseFree_eq_ok {v : SlotIx} {s t : State} :
    releaseFree v s = .ok t ↔
      s.freeQ.length < s.cfg.nSlots ∧ v ∉ s.freeQ ∧ t = s.setFreeQ (s.freeQ ++ [v]) := by
  unfold releaseFree
  cases h : push s.cfg.nSlots s.freeQ v with
  | error f =>
    have : ¬(s.freeQ.length < s.cfg.nSlots ∧ v ∉ s.freeQ) := fun hc => by
      rw [push_eq_ok.2 ⟨hc.1, hc.2, rfl⟩] at h; cases h
    simp only [bind, Except.bind, reduceCtorEq, false_iff]; tauto
  | ok q =>
    obtain ⟨h₁, h₂, rfl⟩ := push_eq_ok.1 h
    simp [bind, Except.bind, pure, Except.pure, h₁, h₂, eq_comm]

/-! ## The slot store -/

theorem memWrite_eq_ok {a : Nat} {bs : List Byte} {s t : State} :
    memWrite a bs s = .ok t ↔ a + bs.length ≤ s.cfg.nSlots * frameSize ∧ t = s.storeSlots a bs := by
  unfold memWrite; split <;> simp_all [eq_comm]

theorem memRead_eq_ok {a : Nat} {s : State} {b : Byte} :
    memRead a s = .ok b ↔ a < s.cfg.nSlots * frameSize ∧ s.slots.read a = some b := by
  unfold memRead; split
  · split <;> simp_all
  · simp_all

theorem Memory.writeBytes_append (m : Memory) (a : Nat) (bs cs : List Byte) :
    (m.writeBytes a bs).writeBytes (a + bs.length) cs = m.writeBytes a (bs ++ cs) := by
  induction bs generalizing m a with
  | nil => simp [Memory.writeBytes]
  | cons b bs ih =>
    rw [List.length_cons, show a + (bs.length + 1) = a + 1 + bs.length by omega]
    simpa [Memory.writeBytes] using ih (m.write a b) (a + 1)

@[simp] theorem bodyBytes_length (d : PutData) : (bodyBytes d).length = 14 := by simp [bodyBytes]

@[simp] theorem stamp_length (alg : ChecksumAlg) (d : PutData) : (stamp alg (bodyBytes d)).length = 15 := by
  simp [stamp]

theorem stampSlot_eq_ok {v : SlotIx} {d : PutData} {s t : State} :
    stampSlot v (bodyBytes d) s = .ok t ↔
      slotAddr v 15 ≤ s.cfg.nSlots * frameSize ∧
        t = s.storeSlots (slotAddr v 0) (stamp s.cfg.checksumAlg (bodyBytes d)) := by
  have hw : (s.storeSlots (slotAddr v 0) (bodyBytes d)).storeSlots (slotAddr v 14)
        [chk s.cfg.checksumAlg (bodyBytes d)] =
      s.storeSlots (slotAddr v 0) (stamp s.cfg.checksumAlg (bodyBytes d)) := by
    have := Memory.writeBytes_append s.slots (slotAddr v 0) (bodyBytes d) [chk s.cfg.checksumAlg (bodyBytes d)]
    simp only [bodyBytes_length] at this
    simp only [State.storeSlots, stamp]
    rw [← this]; rfl
  unfold stampSlot
  by_cases h₁ : slotAddr v 15 ≤ s.cfg.nSlots * frameSize
  · have h₀ : slotAddr v 0 + 14 ≤ s.cfg.nSlots * frameSize := by simp only [slotAddr] at *; omega
    have h₂ : slotAddr v 14 + 1 ≤ s.cfg.nSlots * frameSize := by simp only [slotAddr] at *; omega
    simp [memWrite, bind, Except.bind, h₀, h₁, h₂, hw, eq_comm]
  · have h₂ : ¬ slotAddr v 14 + 1 ≤ s.cfg.nSlots * frameSize := by simp only [slotAddr] at *; omega
    by_cases h₀ : slotAddr v 0 + 14 ≤ s.cfg.nSlots * frameSize <;>
      simp [memWrite, bind, Except.bind, h₀, h₁, h₂]

/-! ## The meanings' bodies -/

theorem putFrameBody_eq_ok {d : PutData} {s t : State} :
    putFrameBody d s = .ok t ↔ ∃ v q, s.freeQ = v :: q ∧ slotAddr v 15 ≤ s.cfg.nSlots * frameSize ∧
      s.filledQ.length < s.cfg.nSlots ∧ v ∉ s.filledQ ∧
      t = ((s.setFreeQ q).storeSlots (slotAddr v 0) (stamp s.cfg.checksumAlg (bodyBytes d))).setFilledQ
            (s.filledQ ++ [v]) := by
  unfold putFrameBody
  cases hf : s.freeQ with
  | nil => simp [acquireFree, hf, pop, bind, Except.bind]
  | cons v q =>
    rw [acquireFree_eq_ok.2 ⟨v, q, hf, rfl⟩]
    simp only [bind, Except.bind]
    cases hs : stampSlot v (bodyBytes d) (s.setFreeQ q) with
    | error f =>
      have : ¬ slotAddr v 15 ≤ s.cfg.nSlots * frameSize := fun hc => by
        rw [stampSlot_eq_ok.2 ⟨by simpa using hc, rfl⟩] at hs; cases hs
      simp [this]
    | ok u =>
      obtain ⟨h₁, rfl⟩ := stampSlot_eq_ok.1 hs
      simp only [enqueueFilled_eq_ok]
      simp only [State.setFreeQ_cfg] at h₁
      simp [h₁]

theorem sndDeqBody_eq_ok {s t : State} :
    sndDeqBody s = .ok t ↔ ∃ v q, s.filledQ = v :: q ∧
      ((tryGranted s = true ∧ t = (s.setFilledQ q).beginTx v) ∨
       (tryGranted s = false ∧ s.freeQ.length < s.cfg.nSlots ∧ v ∉ s.freeQ ∧
        t = ((s.setFilledQ q).countLost).setFreeQ (s.freeQ ++ [v]))) := by
  unfold sndDeqBody
  cases hf : s.filledQ with
  | nil => simp [dequeueFilled, hf, pop, bind, Except.bind]
  | cons v q =>
    rw [dequeueFilled_eq_ok.2 ⟨v, q, hf, rfl⟩]
    have hg : tryGranted (s.setFilledQ q) = tryGranted s := rfl
    cases ht : tryGranted s <;>
      simp [bind, Except.bind, pure, Except.pure, hg, ht, releaseFree_eq_ok, eq_comm (a := t)]

theorem txSenderByte_eq_ok {s t : State} :
    txSenderByte s = .ok t ↔ ∃ b, slotAddr s.sndSlot s.sndIdx.toNat < s.cfg.nSlots * frameSize ∧
      s.slots.read (slotAddr s.sndSlot s.sndIdx.toNat) = some b ∧
      ((s.sndIdx ≠ 14 ∧ t = (s.emit b).advanceTx) ∨
       (s.sndIdx = 14 ∧ s.freeQ.length < s.cfg.nSlots ∧ s.sndSlot ∉ s.freeQ ∧
        t = (((s.emit b).countSent).setFreeQ (s.freeQ ++ [s.sndSlot])).endTx)) := by
  unfold txSenderByte
  cases hr : memRead (slotAddr s.sndSlot s.sndIdx.toNat) s with
  | error f =>
    have : ∀ b, ¬(slotAddr s.sndSlot s.sndIdx.toNat < s.cfg.nSlots * frameSize ∧
        s.slots.read (slotAddr s.sndSlot s.sndIdx.toNat) = some b) := fun b hc => by
      rw [memRead_eq_ok.2 hc] at hr; cases hr
    simp only [bind, Except.bind, reduceCtorEq, false_iff, not_exists]
    exact fun b hc => this b ⟨hc.1, hc.2.1⟩
  | ok b =>
    obtain ⟨h₁, h₂⟩ := memRead_eq_ok.1 hr
    simp only [bind, Except.bind, h₁, h₂, true_and, Option.some.injEq, exists_eq_left', State.emit_sndIdx,
      State.emit_sndSlot]
    by_cases h14 : s.sndIdx = 14
    · simp only [h14, if_true, ne_eq, not_true_eq_false, false_and, false_or, true_and]
      cases hl : releaseFree s.sndSlot (s.emit b).countSent with
      | error f =>
        have : ¬(s.freeQ.length < s.cfg.nSlots ∧ s.sndSlot ∉ s.freeQ) := fun hc => by
          rw [releaseFree_eq_ok.2 ⟨by simpa using hc.1, by simpa using hc.2, rfl⟩] at hl; cases hl
        simp only [reduceCtorEq, false_iff]; tauto
      | ok u =>
        obtain ⟨h₃, h₄, rfl⟩ := releaseFree_eq_ok.1 hl
        simp only [State.countSent_freeQ, State.emit_freeQ, State.countSent_cfg, State.emit_cfg] at h₃ h₄
        simp [pure, Except.pure, h₃, h₄, eq_comm (a := t)]
    · have h14' : ¬ s.sndIdx = 14#4 := h14
      simp [h14', pure, Except.pure, eq_comm (a := t)]

theorem checkFrame_eq_ok {s t : State} :
    checkFrame s = .ok t ↔ ∃ f, s.rxBuf.readBytes 0 frameSize = some f ∧
      ((verify s.cfg.checksumAlg f = true ∧ t = s.countReceived) ∨
       (verify s.cfg.checksumAlg f = false ∧ t = s.enterResync)) := by
  unfold checkFrame readFrame
  cases hf : s.rxBuf.readBytes 0 frameSize with
  | none => simp [bind, Except.bind]
  | some f =>
    cases hv : verify s.cfg.checksumAlg f <;> simp [bind, Except.bind, pure, Except.pure, hv, eq_comm (a := t)]

theorem rxFrameByte_eq_ok {b : Byte} {s t : State} :
    rxFrameByte b s = .ok t ↔ s.rxCnt.toNat < frameSize ∧
      ((s.rxCnt.toNat < bodySize ∧ t = (s.rxPut b).rxAdvance) ∨
       (¬ s.rxCnt.toNat < bodySize ∧ ∃ f, (s.rxPut b).rxBuf.readBytes 0 frameSize = some f ∧
        ((verify s.cfg.checksumAlg f = true ∧ t = (s.rxPut b).rxRestart.countReceived) ∨
         (verify s.cfg.checksumAlg f = false ∧ t = (s.rxPut b).rxRestart.enterResync)))) := by
  unfold rxFrameByte rxStore
  by_cases h₁ : s.rxCnt.toNat < frameSize
  · by_cases h₂ : s.rxCnt.toNat < bodySize
    · simp [bind, Except.bind, pure, Except.pure, h₁, h₂, eq_comm (a := t)]
    · simp [bind, Except.bind, h₁, h₂, checkFrame_eq_ok]
  · simp [bind, Except.bind, h₁]

end Sys2Proof.Machine
end

