-- ==== Sys2Proof/Laws/Effect.lean ====
section
/-! SUPPORT. The inversion lemma of exec: everything an operation can do when it answers a next state, once, for every
invariant and frame to cite. -/

namespace Sys2Proof.Machine

/-- The state after a PUT_FRAME that took slot `v` and left `q` free (R140). -/
def putResult (s : State) (d : PutData) (v : SlotIx) (q : List SlotIx) : State :=
  ((s.setFreeQ q).storeSlots (slotAddr v 0) (stamp s.cfg.checksumAlg (bodyBytes d))).setFilledQ (s.filledQ ++ [v])

/-- What an operation does, one constructor a case of its rule. -/
inductive Effect : Instr → State → State → Prop
  | held {i s} : enabled i s = false → Effect i s s
  | initTakes {s} : s.lstate = .uninit → Effect .init s (s.setLstate .stopped)
  | initIgnored {s} : s.lstate ≠ .uninit → Effect .init s s
  | startTakes {s} : s.lstate = .stopped → Effect .start s (s.setLstate .active)
  | startIgnored {s} : s.lstate ≠ .stopped → Effect .start s s
  | read {a s} : Effect (.regRead a) s (s.report (regRead a s))
  | put {d v q s} : putReady s = true → s.freeQ = v :: q → slotAddr v 15 ≤ s.cfg.nSlots * frameSize →
      s.filledQ.length < s.cfg.nSlots → v ∉ s.filledQ → Effect (.putFrame d) s (putResult s d v q)
  | rxDiscard {b s} : s.lstate ≠ .active → Effect (.rxByte b) s s
  | rxMid {b s} : s.lstate = .active → s.syncState = .synced → s.rxCnt.toNat < bodySize →
      Effect (.rxByte b) s (s.rxPut b).rxAdvance
  | rxGood {b f s} : s.lstate = .active → s.syncState = .synced → s.rxCnt.toNat = bodySize →
      (s.rxPut b).rxBuf.readBytes 0 frameSize = some f → verify s.cfg.checksumAlg f = true →
      Effect (.rxByte b) s (s.rxPut b).rxRestart.countReceived
  | rxBad {b f s} : s.lstate = .active → s.syncState = .synced → s.rxCnt.toNat = bodySize →
      (s.rxPut b).rxBuf.readBytes 0 frameSize = some f → verify s.cfg.checksumAlg f = false →
      Effect (.rxByte b) s (s.rxPut b).rxRestart.enterResync
  | rxPass {b s} : passPossible s = true → Effect (.rxByte b) s (resyncPass (some b) s)
  | timeoutPass {s} : passPossible s = true → Effect .timeout s (resyncPass none s)
  | deqGranted {v q s} : sndReady s = true → s.filledQ = v :: q → tryGranted s = true →
      Effect .sndDeq s ((s.setFilledQ q).beginTx v)
  | deqLost {v q s} : sndReady s = true → s.filledQ = v :: q → tryGranted s = false →
      s.freeQ.length < s.cfg.nSlots → v ∉ s.freeQ →
      Effect .sndDeq s ((s.setFilledQ q).countLost.setFreeQ (s.freeQ ++ [v]))
  | txMid {b s} : txValid s = true → s.owner = .sender → s.sndState = .tx →
      slotAddr s.sndSlot s.sndIdx.toNat < s.cfg.nSlots * frameSize →
      s.slots.read (slotAddr s.sndSlot s.sndIdx.toNat) = some b → s.sndIdx ≠ 14 →
      Effect .txByte s (s.emit b).advanceTx
  | txLast {b s} : txValid s = true → s.owner = .sender → s.sndState = .tx →
      slotAddr s.sndSlot s.sndIdx.toNat < s.cfg.nSlots * frameSize →
      s.slots.read (slotAddr s.sndSlot s.sndIdx.toNat) = some b → s.sndIdx = 14 →
      s.freeQ.length < s.cfg.nSlots → s.sndSlot ∉ s.freeQ →
      Effect .txByte s ((s.emit b).countSent.setFreeQ (s.freeQ ++ [s.sndSlot])).endTx
  | txSync {s} : txValid s = true → s.owner = .sync → 0 < s.syncTxRem.toNat →
      Effect .txByte s (s.emit 0xFF).syncByteSent
  | acquired {s} : syncReady s = true → Effect .syncAcq s s.grantSync.countTriggered.countSyncFrame

theorem finish_eq_next {e : Except Fault State} {t : State} : finish e = .next t ↔ e = .ok t := by
  cases e <;> simp [finish]

theorem held_eq_next {s t : State} : held s = .next t ↔ t = s := by
  simp [held, eq_comm]

theorem passPossible_iff {s : State} :
    passPossible s = true ↔ s.lstate = .active ∧ s.syncState = .resync ∧ s.syncTxRem = 0 := by
  simp [passPossible, and_assoc]

theorem txValid_iff {s : State} :
    txValid s = true ↔ s.lstate = .active ∧
      ((s.owner = .sender ∧ s.sndState = .tx) ∨ (s.owner = .sync ∧ 0 < s.syncTxRem.toNat)) := by
  simp [txValid, txOffered]

theorem syncReady_iff {s : State} :
    syncReady s = true ↔ s.lstate = .active ∧ s.syncState = .waitGrant ∧ s.owner = .none := by
  simp [syncReady, and_assoc]

theorem sndReady_iff {s : State} :
    sndReady s = true ↔ s.lstate = .active ∧ s.sndState = .idle ∧ 0 < s.filledQ.length := by
  simp [sndReady, and_assoc]

theorem putReady_iff {s : State} : putReady s = true ↔ s.lstate = .active ∧ 0 < s.freeQ.length := by
  simp [putReady]

theorem tryGranted_iff {s : State} : tryGranted s = true ↔ s.owner = .none ∧ s.syncState ≠ .waitGrant := by
  simp [tryGranted]

theorem tryGranted_eq_false {s : State} : tryGranted s = false ↔ s.owner ≠ .none ∨ s.syncState = .waitGrant := by
  rw [← Bool.not_eq_true, tryGranted_iff]; tauto

theorem rxReady_iff {s : State} :
    rxReady s = true ↔ s.lstate ≠ .active ∨ s.syncState = .synced ∨ (s.syncState = .resync ∧ s.syncTxRem = 0) := by
  simp [rxReady, or_assoc]

/-- Everything an operation can do when it answers a next state. -/
theorem exec_effect {i : Instr} {s t : State} (h : exec i s = .next t) : Effect i s t := by
  cases i with
  | init =>
    simp only [exec, execInit, Host.Outcome.next.injEq] at h
    subst h
    split
    · exact .initTakes ‹_›
    · exact .initIgnored ‹_›
  | start =>
    simp only [exec, execStart, Host.Outcome.next.injEq] at h
    subst h
    split
    · exact .startTakes ‹_›
    · exact .startIgnored ‹_›
  | regRead a =>
    simp only [exec, execRegRead, Host.Outcome.next.injEq] at h
    subst h; exact .read
  | putFrame d =>
    simp only [exec, execPutFrame] at h
    split at h
    · obtain ⟨v, q, hf, h₁, h₂, h₃, rfl⟩ := putFrameBody_eq_ok.1 (finish_eq_next.1 h)
      exact .put ‹_› hf h₁ h₂ h₃
    · rw [held_eq_next] at h; subst h
      exact .held (Bool.eq_false_iff.2 ‹¬ _›)
  | rxByte b =>
    simp only [exec, execRxByte] at h
    split at h
    · rename_i hr
      split at h
      · cases h; exact .rxDiscard ‹_›
      · rename_i hl
        have hl : s.lstate = .active := by simpa using hl
        split at h
        · rename_i hs
          obtain ⟨h₁, h | ⟨h₂, f, hf, h | h⟩⟩ := rxFrameByte_eq_ok.1 (finish_eq_next.1 h)
          · obtain ⟨h₂, rfl⟩ := h; exact .rxMid hl hs h₂
          · obtain ⟨hv, rfl⟩ := h
            exact .rxGood hl hs (by simp only [bodySize, frameSize] at *; omega) hf hv
          · obtain ⟨hv, rfl⟩ := h
            exact .rxBad hl hs (by simp only [bodySize, frameSize] at *; omega) hf hv
        · cases h
          refine .rxPass (passPossible_iff.2 ?_)
          rcases rxReady_iff.1 hr with h | h | ⟨h, h'⟩
          · exact absurd hl h
          · exact absurd h ‹_›
          · exact ⟨hl, h, h'⟩
    · rw [held_eq_next] at h; subst h
      exact .held (Bool.eq_false_iff.2 ‹¬ _›)
  | txByte =>
    simp only [exec, execTxByte] at h
    split at h
    · rename_i hv
      obtain ⟨hl, hv'⟩ := txValid_iff.1 hv
      split at h
      · rename_i ho
        have hs : s.sndState = .tx := by
          rcases hv' with h | h
          · exact h.2
          · rw [ho] at h; simp at h
        obtain ⟨b, h₁, h₂, ⟨h₃, rfl⟩ | ⟨h₃, h₄, h₅, rfl⟩⟩ := txSenderByte_eq_ok.1 (finish_eq_next.1 h)
        · exact .txMid hv ho hs h₁ h₂ h₃
        · exact .txLast hv ho hs h₁ h₂ h₃ h₄ h₅
      · rename_i ho
        cases h
        rcases hv' with h | h
        · exact absurd h.1 ho
        · exact .txSync hv h.1 h.2
    · rw [held_eq_next] at h; subst h
      exact .held (Bool.eq_false_iff.2 ‹¬ _›)
  | timeout =>
    simp only [exec, execTimeout] at h
    split at h
    · cases h; exact .timeoutPass ‹_›
    · rw [held_eq_next] at h; subst h
      exact .held (Bool.eq_false_iff.2 ‹¬ _›)
  | sndDeq =>
    simp only [exec, execSndDeq] at h
    split at h
    · obtain ⟨v, q, hf, ⟨h₁, rfl⟩ | ⟨h₁, h₂, h₃, rfl⟩⟩ := sndDeqBody_eq_ok.1 (finish_eq_next.1 h)
      · exact .deqGranted ‹_› hf h₁
      · exact .deqLost ‹_› hf h₁ h₂ h₃
    · rw [held_eq_next] at h; subst h
      exact .held (Bool.eq_false_iff.2 ‹¬ _›)
  | syncAcq =>
    simp only [exec, execSyncAcq] at h
    split at h
    · cases h; exact .acquired ‹_›
    · rw [held_eq_next] at h; subst h
      exact .held (Bool.eq_false_iff.2 ‹¬ _›)

end Sys2Proof.Machine
end

