-- ==== Sys2Proof/Laws/Pass.lean ====
section
/-! SUPPORT. A resync pass (R122 to R125): what it leaves alone, and the three ways it can end. -/

namespace Sys2Proof.Machine

variable (b : Option Byte) (s : State)

@[simp] theorem countPass_cfg : (countPass b s).cfg = s.cfg := by
  unfold countPass countHit; repeat' split
  all_goals rfl
@[simp] theorem countPass_lstate : (countPass b s).lstate = s.lstate := by
  unfold countPass countHit; repeat' split
  all_goals rfl
@[simp] theorem countPass_slots : (countPass b s).slots = s.slots := by
  unfold countPass countHit; repeat' split
  all_goals rfl
@[simp] theorem countPass_freeQ : (countPass b s).freeQ = s.freeQ := by
  unfold countPass countHit; repeat' split
  all_goals rfl
@[simp] theorem countPass_filledQ : (countPass b s).filledQ = s.filledQ := by
  unfold countPass countHit; repeat' split
  all_goals rfl
@[simp] theorem countPass_sndState : (countPass b s).sndState = s.sndState := by
  unfold countPass countHit; repeat' split
  all_goals rfl
@[simp] theorem countPass_sndSlot : (countPass b s).sndSlot = s.sndSlot := by
  unfold countPass countHit; repeat' split
  all_goals rfl
@[simp] theorem countPass_sndIdx : (countPass b s).sndIdx = s.sndIdx := by
  unfold countPass countHit; repeat' split
  all_goals rfl
@[simp] theorem countPass_rxBuf : (countPass b s).rxBuf = s.rxBuf := by
  unfold countPass countHit; repeat' split
  all_goals rfl
@[simp] theorem countPass_byteTimer : (countPass b s).byteTimer = s.byteTimer := by
  unfold countPass countHit; repeat' split
  all_goals rfl
@[simp] theorem countPass_inputs : (countPass b s).inputs = s.inputs := by
  unfold countPass countHit; repeat' split
  all_goals rfl
@[simp] theorem countPass_txOut : (countPass b s).txOut = s.txOut := by
  unfold countPass countHit; repeat' split
  all_goals rfl
@[simp] theorem countPass_rdOut : (countPass b s).rdOut = s.rdOut := by
  unfold countPass countHit; repeat' split
  all_goals rfl
@[simp] theorem countPass_owner : (countPass b s).owner = s.owner := by
  unfold countPass countHit; repeat' split
  all_goals rfl
@[simp] theorem countPass_rxCnt : (countPass b s).rxCnt = s.rxCnt := by
  unfold countPass countHit; repeat' split
  all_goals rfl
@[simp] theorem countPass_syncState : (countPass b s).syncState = s.syncState := by
  unfold countPass countHit; repeat' split
  all_goals rfl
@[simp] theorem countPass_syncTxRem : (countPass b s).syncTxRem = s.syncTxRem := by
  unfold countPass countHit; repeat' split
  all_goals rfl

@[simp] theorem resyncPass_cfg : (resyncPass b s).cfg = s.cfg := by
  unfold resyncPass settlePass resend; repeat' split
  all_goals simp
@[simp] theorem resyncPass_lstate : (resyncPass b s).lstate = s.lstate := by
  unfold resyncPass settlePass resend; repeat' split
  all_goals simp
@[simp] theorem resyncPass_slots : (resyncPass b s).slots = s.slots := by
  unfold resyncPass settlePass resend; repeat' split
  all_goals simp
@[simp] theorem resyncPass_freeQ : (resyncPass b s).freeQ = s.freeQ := by
  unfold resyncPass settlePass resend; repeat' split
  all_goals simp
@[simp] theorem resyncPass_filledQ : (resyncPass b s).filledQ = s.filledQ := by
  unfold resyncPass settlePass resend; repeat' split
  all_goals simp
@[simp] theorem resyncPass_sndState : (resyncPass b s).sndState = s.sndState := by
  unfold resyncPass settlePass resend; repeat' split
  all_goals simp
@[simp] theorem resyncPass_sndSlot : (resyncPass b s).sndSlot = s.sndSlot := by
  unfold resyncPass settlePass resend; repeat' split
  all_goals simp
@[simp] theorem resyncPass_sndIdx : (resyncPass b s).sndIdx = s.sndIdx := by
  unfold resyncPass settlePass resend; repeat' split
  all_goals simp
@[simp] theorem resyncPass_rxBuf : (resyncPass b s).rxBuf = s.rxBuf := by
  unfold resyncPass settlePass resend; repeat' split
  all_goals simp
@[simp] theorem resyncPass_byteTimer : (resyncPass b s).byteTimer = s.byteTimer := by
  unfold resyncPass settlePass resend; repeat' split
  all_goals simp
@[simp] theorem resyncPass_inputs : (resyncPass b s).inputs = s.inputs := by
  unfold resyncPass settlePass resend; repeat' split
  all_goals simp
@[simp] theorem resyncPass_txOut : (resyncPass b s).txOut = s.txOut := by
  unfold resyncPass settlePass resend; repeat' split
  all_goals simp
@[simp] theorem resyncPass_rdOut : (resyncPass b s).rdOut = s.rdOut := by
  unfold resyncPass settlePass resend; repeat' split
  all_goals simp

/-- TMO_CNT after the counting step: one more on a tick (R123). -/
theorem countPass_tmoCnt : (countPass b s).tmoCnt = if isTick s.cfg b then s.tmoCnt + 1 else s.tmoCnt := by
  unfold countPass countHit; repeat' split
  all_goals simp_all

/-- HIT_CNT after the counting step (R123). -/
theorem countPass_hitCnt : (countPass b s).hitCnt =
    if b = some 0xFF then s.hitCnt + 1
    else if b ≠ none ∧ s.cfg.syncHitMode = .contiguous then 0 else s.hitCnt := by
  unfold countPass countHit; repeat' split
  all_goals simp_all

/-- The statistics after the counting step: STAT_SYNC_TMO_TICKS is the twin of TMO_CNT (R123). -/
theorem countPass_stats : (countPass b s).stats =
    if isTick s.cfg b then { s.stats with syncTmoTicks := inc32 s.stats.syncTmoTicks } else s.stats := by
  unfold countPass countHit; repeat' split
  all_goals simp_all

/-- The three ways a pass ends: it terminates the resync, it resends the SyncFrame, or it only counts (R122). -/
theorem resyncPass_cases :
    ((countPass b s).hitCnt.toNat = 15 ∧ resyncPass b s = (countPass b s).terminate) ∨
    ((countPass b s).hitCnt.toNat ≠ 15 ∧ (countPass b s).tmoCnt.toNat = s.cfg.syncTimeoutThrs ∧
      resyncPass b s = (countPass b s).resendSync.countSyncFrame) ∨
    ((countPass b s).hitCnt.toNat ≠ 15 ∧ (countPass b s).tmoCnt.toNat ≠ s.cfg.syncTimeoutThrs ∧
      resyncPass b s = countPass b s) := by
  unfold resyncPass settlePass resend
  by_cases h₁ : (countPass b s).hitCnt.toNat = 15
  · simp [h₁]
  · by_cases h₂ : (countPass b s).tmoCnt.toNat = s.cfg.syncTimeoutThrs <;> simp [h₁, h₂]

end Sys2Proof.Machine
end

