-- ==== Sys2Proof/Laws/Step.lean ====
section
/-! SUPPORT. What a step is made of, and the one induction every step invariant goes through. -/

namespace Sys2Proof.Machine

theorem execAll_cons {i : Instr} {is : List Instr} {s t : State} :
    execAll (i :: is) s = .next t ↔ ∃ u, exec i s = .next u ∧ execAll is u = .next t := by
  rw [execAll]
  cases h : exec i s <;> simp

theorem execAll_append {is js : List Instr} {s t : State} :
    execAll (is ++ js) s = .next t ↔ ∃ u, execAll is s = .next u ∧ execAll js u = .next t := by
  induction is generalizing s with
  | nil => simp [execAll]
  | cons i is ih => simp only [List.cons_append, execAll_cons, ih]; grind

/-- A property kept by every operation is kept by operations performed one after another. -/
theorem execAll_keeps {P : State → Prop} (hexec : ∀ i s t, P s → exec i s = .next t → P t) {is : List Instr}
    {s t : State} (hs : P s) (h : execAll is s = .next t) : P t := by
  induction is generalizing s with
  | nil => cases h; exact hs
  | cons i is ih =>
    obtain ⟨u, hu, h⟩ := execAll_cons.1 h
    exact ih (hexec i s u hs hu) h

/-- What a step is: nothing pending, a decoded label, or a clock edge (R8, R72, R205). -/
theorem step_cases {s t : State} (h : step s = .next t) :
    s.cfg.wf = true ∧
      ((s.inputs = [] ∧ t = s) ∨
       (∃ l rest i, s.inputs = .label l :: rest ∧ decode l = .ok i ∧ exec i (s.setInputs rest) = .next t) ∨
       (∃ c rest, s.inputs = .cycle c :: rest ∧ clockEdge c (s.setInputs rest) = .next t)) := by
  unfold step at h
  split at h
  · refine ⟨‹_›, ?_⟩
    unfold runNext at h
    split at h
    · cases h; exact .inl ⟨‹_›, rfl⟩
    · rename_i x rest hi
      cases x with
      | label l =>
        simp only [runInput, runLabel] at h
        split at h
        · exact .inr (.inl ⟨l, rest, _, hi, ‹_›, h⟩)
        · cases h
      | cycle c => exact .inr (.inr ⟨c, rest, hi, h⟩)
  · cases h

/-- A property kept by taking an input off the schedule, by the timer's update, by a reset edge and by every operation is
kept by every step. -/
theorem step_keeps {P : State → Prop} (hinputs : ∀ s l, P s → P (s.setInputs l))
    (htimer : ∀ c s, P s → P (s.setTimer (nextTimer c s))) (hreset : ∀ s, P s → P (resetEdge s))
    (hexec : ∀ i s t, P s → exec i s = .next t → P t) {s t : State} (hs : P s) (h : step s = .next t) : P t := by
  obtain ⟨-, ⟨-, rfl⟩ | ⟨l, rest, i, -, -, h⟩ | ⟨c, rest, -, h⟩⟩ := step_cases h
  · exact hs
  · exact hexec i _ t (hinputs s rest hs) h
  · unfold clockEdge at h
    split at h
    · exact execAll_keeps hexec (htimer c _ (hinputs s rest hs)) h
    · cases h; exact hreset _ (hinputs s rest hs)

/-- No operation fails where none can: a property kept by every operation under which every operation answers a next state
carries a whole list of operations through. -/
theorem execAll_completes {P : State → Prop} (hexec : ∀ i s, P s → ∃ t, exec i s = .next t ∧ P t) (is : List Instr)
    {s : State} (hs : P s) : ∃ t, execAll is s = .next t ∧ P t := by
  induction is generalizing s with
  | nil => exact ⟨s, rfl, hs⟩
  | cons i is ih =>
    obtain ⟨u, hu, hp⟩ := hexec i s hs
    obtain ⟨t, ht, hp⟩ := ih hp
    exact ⟨t, execAll_cons.2 ⟨u, hu, ht⟩, hp⟩

end Sys2Proof.Machine
end

