-- ==== Sys2Proof/Laws/Clock.lean ====
section
/-! SUPPORT. What stands in a cycle's list of operations, and that R205's place rises along it. -/

namespace Sys2Proof.Machine

theorem regIndex_eq (a : Byte) : regIndex a = a.toNat / 4 := by
  have := a.isLt
  simp [regIndex, BitVec.extractLsb'_toNat, Nat.shiftRight_eq_div_pow]; omega

/-- The command of a register write as arithmetic on the pins (R36, R41). -/
theorem ctrlCommand_eq (a : Byte) (w : Reg) :
    ctrlCommand a w =
      if a.toNat < 4 then
        if w.toNat % 4 = 1 then some .init else if w.toNat % 4 = 2 then some .start else none
      else none := by
  unfold ctrlCommand
  have h1 : regIndex a = 0 ↔ a.toNat < 4 := by rw [regIndex_eq]; omega
  have h2 : (w.extractLsb' 0 2).toNat = w.toNat % 4 := by simp [BitVec.extractLsb'_toNat]
  simp only [h1, h2]
  split
  · split
    · simp_all
    · simp_all
    · simp_all
  · rfl

theorem mem_ctrlCommand {a w i} :
    i ∈ (ctrlCommand a w).toList ↔
      (a.toNat < 4 ∧ w.toNat % 4 = 1 ∧ i = .init) ∨
        (a.toNat < 4 ∧ w.toNat % 4 = 2 ∧ i = .start) := by
  rw [ctrlCommand_eq]
  by_cases h : a.toNat < 4
  · by_cases h1 : w.toNat % 4 = 1
    · simp [h, h1]
    · by_cases h2 : w.toNat % 4 = 2 <;> simp [h, h1, h2]
  · simp [h]

/-- Places rise along a list and stay between two bounds. -/
def RankedWithin (l : List Instr) (a b : Nat) : Prop :=
  l.Pairwise (fun i j => cycleRank i < cycleRank j) ∧ ∀ i ∈ l, a ≤ cycleRank i ∧ cycleRank i ≤ b

theorem RankedWithin.append {l m a b c d} (h : RankedWithin l a b) (h' : RankedWithin m c d)
    (hbc : b < c) (hac : a ≤ c) (hbd : b ≤ d) : RankedWithin (l ++ m) a d := by
  refine ⟨List.pairwise_append.2 ⟨h.1, h'.1,
    fun i hi j hj => by have := h.2 i hi; have := h'.2 j hj; omega⟩, fun i hi => ?_⟩
  rcases List.mem_append.1 hi with hi | hi
  · have := h.2 i hi; omega
  · have := h'.2 i hi; omega

theorem rankedWithin_one (p : Bool) (x : Instr) :
    RankedWithin (if p then [x] else []) (cycleRank x) (cycleRank x) := by
  cases p <;> simp [RankedWithin]

theorem cycleOps_ranked (c s) : (cycleOps c s).Pairwise (fun i j => cycleRank i < cycleRank j) := by
  have h1 : RankedWithin (if c.regWr then (ctrlCommand c.regAddr c.regWdata).toList else []) 1 1 := by
    split
    · refine ⟨by cases ctrlCommand c.regAddr c.regWdata <;> simp, fun i hi => ?_⟩
      rcases mem_ctrlCommand.1 hi with h | h <;> simp [h, cycleRank]
    · simp [RankedWithin]
  have h4 : RankedWithin
      (if rxXfer c s then [.rxByte c.rxData] else if timerExpires c s then [.timeout] else []) 4 4 := by
    split
    · exact rankedWithin_one true (.rxByte c.rxData)
    · exact rankedWithin_one (timerExpires c s) .timeout
  have h := (rankedWithin_one c.regRd (.regRead c.regAddr)).append h1 (by simp [cycleRank]) (by simp [cycleRank])
    (by simp [cycleRank])
  have h := h.append (rankedWithin_one c.syncGo .syncAcq) (by decide) (by simp [cycleRank]) (by decide)
  have h := h.append (rankedWithin_one (txXfer c s) .txByte) (by decide) (by simp [cycleRank]) (by decide)
  have h := h.append h4 (by decide) (by simp [cycleRank]) (by decide)
  have h := h.append (rankedWithin_one c.sndGo .sndDeq) (by decide) (by simp [cycleRank]) (by decide)
  exact (h.append (rankedWithin_one (putXfer c s) (.putFrame c.putData)) (by simp [cycleRank]) (by simp [cycleRank])
    (by simp [cycleRank])).1

/-- Each operation of a cycle and the event that puts it there. -/
theorem mem_cycleOps (c s x) :
    x ∈ cycleOps c s ↔
      (c.regRd = true ∧ x = .regRead c.regAddr) ∨
      (c.regWr = true ∧ c.regAddr.toNat < 4 ∧ c.regWdata.toNat % 4 = 1 ∧ x = .init) ∨
      (c.regWr = true ∧ c.regAddr.toNat < 4 ∧ c.regWdata.toNat % 4 = 2 ∧ x = .start) ∨
      (c.syncGo = true ∧ x = .syncAcq) ∨ (txXfer c s = true ∧ x = .txByte) ∨
      (rxXfer c s = true ∧ x = .rxByte c.rxData) ∨
      (rxXfer c s = false ∧ timerExpires c s = true ∧ x = .timeout) ∨ (c.sndGo = true ∧ x = .sndDeq) ∨
      (putXfer c s = true ∧ x = .putFrame c.putData) := by
  unfold cycleOps
  have this := @mem_ctrlCommand c.regAddr c.regWdata x
  have one : ∀ (p : Bool) (y : Instr), x ∈ (if p then [y] else []) ↔ p = true ∧ x = y := by
    intro p y; cases p <;> simp
  have e1 : x ∈ (if c.regWr then (ctrlCommand c.regAddr c.regWdata).toList else []) ↔
    (c.regWr = true ∧ c.regAddr.toNat < 4 ∧ c.regWdata.toNat % 4 = 1 ∧ x = .init) ∨
    (c.regWr = true ∧ c.regAddr.toNat < 4 ∧ c.regWdata.toNat % 4 = 2 ∧ x = .start) := by
      cases c.regWr
      · simp
      · simp only [if_true]; rw [this]; simp only [true_and]
  have e2 : x ∈ (if rxXfer c s then [.rxByte c.rxData] else if timerExpires c s then [.timeout] else []) ↔
    (rxXfer c s = true ∧ x = .rxByte c.rxData) ∨ (rxXfer c s = false ∧ timerExpires c s = true ∧ x = .timeout) := by
    cases rxXfer c s <;> cases timerExpires c s <;> simp
  simp only [List.mem_append, one, e1, e2, or_assoc]

end Sys2Proof.Machine
end

