-- ==== Sys2Proof/Laws/Inputs.lean ====
section
/-! SUPPORT. The operations and the schedule (log 4): replacing the pending inputs commutes with every operation. -/

namespace Sys2Proof.Machine

/-- A function on the state an operation answers. -/
def mapNext (f : State → State) : Host.Outcome State Fault Refusal → Host.Outcome State Fault Refusal
  | .next s => .next (f s)
  | .fault f => .fault f
  | .refused r => .refused r

/-- A function on the state an operation's pseudocode ends in. -/
def mapOk (f : State → State) : Except Fault State → Except Fault State
  | .ok s => .ok (f s)
  | .error e => .error e

theorem finish_mapOk (f) (e) : finish (mapOk f e) = mapNext f (finish e) := by cases e <;> rfl

theorem resyncPass_setInputs (b : Option Byte) (s : State) (l : List Input) :
    resyncPass b (s.setInputs l) = (resyncPass b s).setInputs l := by
  have hc : countPass b (s.setInputs l) = (countPass b s).setInputs l := by
    unfold countPass countHit; repeat' split
    all_goals first | rfl | simp_all
  unfold resyncPass; rw [hc]
  generalize countPass b s = u
  unfold settlePass
  by_cases h1 : u.hitCnt.toNat = syncHits
  · rw [if_pos h1, if_pos (by exact h1)]; rfl
  · rw [if_neg h1, if_neg (by exact h1)]
    by_cases h2 : u.tmoCnt.toNat = u.cfg.syncTimeoutThrs
    · rw [if_pos h2, if_pos (by exact h2)]; rfl
    · rw [if_neg h2, if_neg (by exact h2)]

theorem memWrite_setInputs (a bs) (s : State) (l : List Input) :
    memWrite a bs (s.setInputs l) = mapOk (·.setInputs l) (memWrite a bs s) := by
  unfold memWrite
  by_cases h : a + bs.length ≤ s.cfg.nSlots * frameSize
  · rw [if_pos h, if_pos (by exact h)]; rfl
  · rw [if_neg h, if_neg (by exact h)]; rfl
theorem enqueueFilled_setInputs (v) (s : State) (l : List Input) :
    enqueueFilled v (s.setInputs l) = mapOk (·.setInputs l) (enqueueFilled v s) := by
  unfold enqueueFilled
  change (push s.cfg.nSlots s.filledQ v >>= _) = _
  cases push s.cfg.nSlots s.filledQ v <;> rfl
theorem checkFrame_setInputs (s : State) (l : List Input) :
    checkFrame (s.setInputs l) = mapOk (·.setInputs l) (checkFrame s) := by
  unfold checkFrame
  change (readFrame s >>= _) = _
  cases readFrame s with
  | error e => rfl
  | ok f =>
    change (if verify s.cfg.checksumAlg f = true then _ else _) = mapOk _ (if verify s.cfg.checksumAlg f = true then _ else _)
    by_cases h : verify s.cfg.checksumAlg f = true
    · rw [if_pos h, if_pos h]; rfl
    · rw [if_neg h, if_neg h]; rfl

/-- No operation looks at the schedule: performed with another one it does the same and leaves that one. -/
theorem exec_setInputs (i : Instr) (s : State) (l : List Input) :
    exec i (s.setInputs l) = mapNext (·.setInputs l) (exec i s) := by
  cases i with
  | init =>
    simp only [exec, execInit]
    by_cases h : s.lstate = .uninit
    · simp [h, mapNext]; rfl
    · simp [h, mapNext]
  | start =>
    simp only [exec, execStart]
    by_cases h : s.lstate = .stopped
    · simp [h, mapNext]; rfl
    · simp [h, mapNext]
  | regRead a => rfl
  | timeout =>
    simp only [exec, execTimeout]
    rw [show passPossible (s.setInputs l) = passPossible s from rfl, resyncPass_setInputs]; split <;> rfl
  | syncAcq =>
    simp only [exec, execSyncAcq]
    rw [show syncReady (s.setInputs l) = syncReady s from rfl]; split <;> rfl
  | putFrame d =>
    simp only [exec, execPutFrame]
    rw [show putReady (s.setInputs l) = putReady s from rfl]; split
    · rw [← finish_mapOk]; congr 1
      unfold putFrameBody acquireFree stampSlot
      simp only [bind, Except.bind, pure, Except.pure]
      simp only [State.setInputs_freeQ]
      cases h : pop s.freeQ with
      | error e => rfl
      | ok w =>
        obtain ⟨v, q⟩ := w
        dsimp only
        rw [show ((s.setInputs l).setFreeQ q) = (s.setFreeQ q).setInputs l from rfl]
        generalize s.setFreeQ q = u
        rw [memWrite_setInputs]
        cases memWrite (slotAddr v 0) (bodyBytes d) u with
        | error e => rfl
        | ok u =>
          simp only [mapOk]
          rw [memWrite_setInputs]
          rw [show (u.setInputs l).cfg = u.cfg from rfl]
          cases memWrite (slotAddr v 14) [chk u.cfg.checksumAlg (bodyBytes d)] u with
          | error e => rfl
          | ok u => simp only [mapOk]; rw [enqueueFilled_setInputs]; rfl
    · rfl
  | rxByte b =>
    simp only [exec, execRxByte]
    rw [show rxReady (s.setInputs l) = rxReady s from rfl]; split
    · change (if s.lstate ≠ .active then Host.Outcome.next (s.setInputs l)
        else if s.syncState = .synced then finish (rxFrameByte b (s.setInputs l)) else .next (resyncPass (some b) (s.setInputs l))) = _
      by_cases ha : s.lstate = .active
      swap
      · rw [if_pos ha, if_pos ha]; rfl
      rw [if_neg (not_not.2 ha), if_neg (not_not.2 ha)]
      by_cases hsy : s.syncState = .synced
      · rw [if_pos hsy, if_pos hsy, ← finish_mapOk]; congr 1
        unfold rxFrameByte
        have : rxStore b (s.setInputs l) = mapOk (·.setInputs l) (rxStore b s) := by
          unfold rxStore
          by_cases h : s.rxCnt.toNat < frameSize
          · rw [if_pos h, if_pos (by exact h)]; rfl
          · rw [if_neg h, if_neg (by exact h)]; rfl
        rw [this]
        cases rxStore b s with
        | error e => rfl
        | ok u =>
          change (if u.rxCnt.toNat < bodySize then pure (u.setInputs l).rxAdvance
            else checkFrame (u.setInputs l).rxRestart) = mapOk _ (if u.rxCnt.toNat < bodySize then _ else _)
          by_cases h : u.rxCnt.toNat < bodySize
          · rw [if_pos h, if_pos h]; rfl
          · rw [if_neg h, if_neg h]; exact checkFrame_setInputs u.rxRestart l
      · rw [if_neg hsy, if_neg hsy, resyncPass_setInputs]; rfl
    · rfl
  | txByte =>
    simp only [exec, execTxByte]
    rw [show txValid (s.setInputs l) = txValid s from rfl]; split
    · change (if s.owner = .sender then finish (txSenderByte (s.setInputs l))
        else .next (txSyncByte (s.setInputs l))) = _
      by_cases hsy : s.owner = .sender
      · rw [if_pos hsy, if_pos hsy, ← finish_mapOk]; congr 1
        unfold txSenderByte memRead releaseFree push
        simp only [bind, Except.bind, pure, Except.pure]
        simp only [State.setInputs_sndSlot, State.setInputs_sndIdx, State.setInputs_cfg, State.setInputs_slots]
        by_cases h1 : slotAddr s.sndSlot s.sndIdx.toNat < s.cfg.nSlots * frameSize <;> simp only [h1, if_true, if_false]
        · cases h2 : s.slots.read (slotAddr s.sndSlot s.sndIdx.toNat) <;> simp only
          · rfl
          · rw [show ∀ b, (s.setInputs l).emit b = (s.emit b).setInputs l from fun _ => rfl]
            generalize (s.emit _) = u
            simp only [State.setInputs_sndIdx]
            by_cases h3 : u.sndIdx = 14 <;> simp only [h3, if_true, if_false]
            · rw [show (u.setInputs l).countSent = u.countSent.setInputs l from rfl]
              generalize u.countSent = w
              simp only [State.setInputs_freeQ, State.setInputs_cfg, State.setInputs_sndSlot]
              by_cases h4 : w.cfg.nSlots ≤ w.freeQ.length
              · simp [h4, mapOk]
              by_cases h5 : u.sndSlot ∈ w.freeQ <;> simp [h4, h5, mapOk]
              rfl
            · rfl
        · rfl
      · rw [if_neg hsy, if_neg hsy]; rfl
    · rfl
  | sndDeq =>
    simp only [exec, execSndDeq]
    rw [show sndReady (s.setInputs l) = sndReady s from rfl]; split
    · rw [← finish_mapOk]; congr 1
      unfold sndDeqBody dequeueFilled releaseFree push
      simp only [bind, Except.bind, pure, Except.pure]
      cases h : s.filledQ with
      | nil => simp [pop, h, mapOk]
      | cons v q =>
        simp only [pop, State.setInputs_filledQ, h]
        rw [show ((s.setInputs l).setFilledQ q) = (s.setFilledQ q).setInputs l from rfl]
        generalize s.setFilledQ q = u
        rw [show tryGranted (u.setInputs l) = tryGranted u from rfl]
        split
        · rfl
        · rw [show (u.setInputs l).countLost = u.countLost.setInputs l from rfl]
          generalize u.countLost = w
          by_cases h4 : w.cfg.nSlots ≤ w.freeQ.length <;> simp [h4, mapOk]
          by_cases h5 : v ∈ w.freeQ <;> simp [h5]
          rfl
    · rfl

end Sys2Proof.Machine
end

