-- ==== Sys2Proof/Laws/PerInstr.lean ====
section
/-! SUPPORT. Per-operation facts about the encoding: one lemma for each constructor of `Instr`. -/

namespace Sys2Proof.Laws

/-- The encoder's label of an operation has a defined operation code (R72) and A = 0 (R70), and its operand is 14 bytes long
under OPC 0x3 and empty under every other (R70, R76). -/
def EncodedLabel.Statement (i : Instr) : Prop :=
  1 ≤ (opcOf (encode i).label).toNat ∧ (opcOf (encode i).label).toNat ≤ 9 ∧ fieldA (encode i).label = 0 ∧
    (encode i).operand.length = if opcOf (encode i).label = 3 then bodySize else 0

theorem EncodedLabel.init : EncodedLabel.Statement .init := by unfold Statement; decide

theorem EncodedLabel.start : EncodedLabel.Statement .start := by unfold Statement; decide

theorem EncodedLabel.putFrame (d : PutData) : EncodedLabel.Statement (.putFrame d) := by
  have h : (bodyBytes d).length = bodySize := by simp [bodyBytes]
  simp only [Statement, encode, labelOf, operandOf, h]
  simp [opcOf, fieldA]

/-- The fields of a label whose upper byte is `k` and lower byte `a`. -/
theorem fields_append (k a : Byte) : opcOf (k ++ a) = k.extractLsb' 4 4 ∧ fieldA (k ++ a) = k.extractLsb' 0 4 := by
  constructor
  · apply BitVec.eq_of_getLsbD_eq
    intro j hj
    simp only [opcOf, BitVec.getLsbD_extractLsb', BitVec.getLsbD_append, hj, show ¬ 12 + j < 8 by omega, decide_true,
      Bool.true_and, if_false]
    congr 1; omega
  · apply BitVec.eq_of_getLsbD_eq
    intro j hj
    simp only [fieldA, BitVec.getLsbD_extractLsb', BitVec.getLsbD_append, hj, show ¬ 8 + j < 8 by omega, decide_true,
      Bool.true_and, if_false]
    congr 1; omega

theorem EncodedLabel.regRead (addr : Byte) : EncodedLabel.Statement (.regRead addr) := by
  simp only [Statement, encode, labelOf, operandOf, fields_append]; decide

theorem EncodedLabel.rxByte (b : Byte) : EncodedLabel.Statement (.rxByte b) := by
  simp only [Statement, encode, labelOf, operandOf, fields_append]; decide

theorem EncodedLabel.txByte : EncodedLabel.Statement .txByte := by unfold Statement; decide

theorem EncodedLabel.timeout : EncodedLabel.Statement .timeout := by unfold Statement; decide

theorem EncodedLabel.sndDeq : EncodedLabel.Statement .sndDeq := by unfold Statement; decide

theorem EncodedLabel.syncAcq : EncodedLabel.Statement .syncAcq := by unfold Statement; decide

end Sys2Proof.Laws
end

