-- ==== Sys2Proof/Laws/Slots.lean ====
section
/-! SUPPORT. Small lemmas about slot conservation (R65) and stored frames (R22). -/

namespace Sys2Proof.Machine

theorem inFlight_congr {s t : State} (h₁ : t.sndState = s.sndState) (h₂ : t.sndSlot = s.sndSlot) :
    inFlight t = inFlight s := by
  rw [inFlight, inFlight, h₁, h₂]

theorem Conserved.congr {s t : State} (h : Conserved s) (h₁ : t.freeQ = s.freeQ) (h₂ : t.filledQ = s.filledQ)
    (h₃ : t.sndState = s.sndState) (h₄ : t.sndSlot = s.sndSlot) (h₅ : t.cfg = s.cfg) : Conserved t := by
  obtain ⟨a, b, c⟩ := h
  have hi : allSlots t = allSlots s := by simp [allSlots, inFlight, *]
  exact ⟨by rw [h₁, h₂, h₃, h₅]; exact a, by rw [hi, h₅]; exact b, by rw [hi, h₅]; exact c⟩

/-- Moving slot indices between the two FIFOs and the sender keeps conservation. -/
theorem Conserved.perm {s t : State} (h : Conserved s) (hp : (allSlots t).Perm (allSlots s)) (hc : t.cfg = s.cfg) :
    Conserved t := by
  obtain ⟨a, b, c⟩ := h
  refine ⟨?_, fun k hk => ?_, fun v hv => ?_⟩
  · have := hp.length_eq
    simp only [allSlots, inFlight, List.length_append] at this
    rw [hc, ← a]
    split <;> split <;> simp_all
  · rw [hp.count_eq]; exact b k (hc ▸ hk)
  · rw [hc]; exact c v (hp.mem_iff.1 hv)

/-- No slot index is in two places. -/
theorem Conserved.count_eq_one {s : State} (h : Conserved s) {v : SlotIx} (hv : v ∈ allSlots s) :
    (allSlots s).count v = 1 := by
  simpa using h.once v.toNat (h.inRange v hv)

/-- Two slots share no address (R50: an access never crosses a slot boundary). -/
theorem slotAddr_disjoint {v w : SlotIx} (h : v ≠ w) (i j : Nat) (hi : i < 15) (hj : j < 15) :
    slotAddr v i ≠ slotAddr w j := by
  have : v.toNat ≠ w.toNat := fun hc => h (BitVec.eq_of_toNat_eq hc)
  simp only [slotAddr, frameSize]; omega

/-- A slot in range ends inside the slot store. -/
theorem slotAddr_le {v : SlotIx} {n : Nat} (h : v.toNat < n) : slotAddr v 15 ≤ n * frameSize := by
  simp only [slotAddr, frameSize]; omega

end Sys2Proof.Machine
end

