-- ==== Sys2Proof/Tests/Slice0.lean ====
section
/-! SUPPORT. Small tests with expected values from `spec/` (the vectors of `95_test_vectors.md` and the encodings of
`30_encoding.md`), the refusals of WellFormed, and a witness for the hypotheses of each statement. -/

namespace Sys2Proof.Tests

open Sys2Proof.Machine

/-! ## States the tests start from -/

/-- Two slots, threshold 2, three cycles of byte timeout. -/
def tc : Config := ⟨2, 2, .xor8, .cumulative, .everyPass, 3⟩

/-- The ACTIVE-reset state of `95_test_vectors.md`, reference instance. -/
def ref : State := { State.reset with lstate := .active }

/-- The ACTIVE-reset state of the small instance. -/
def sA : State := { State.resetWith tc with lstate := .active }

/-- Frame Z (15 bytes 00) in slot 0. -/
def slot0 : Memory := (List.range 15).map (fun i => (i, 0))

/-- Frame Z queued. -/
def sQ : State := { sA with slots := slot0, freeQ := [1], filledQ := [0] }

/-- Frame Z in transmission, its last byte next. -/
def sT : State :=
  { sA with
    slots := slot0, freeQ := [1], sndState := .tx, sndIdx := 14, owner := .sender, txOut := List.replicate 14 0 }

/-- A verify has failed, nobody owns the channel. -/
def sW : State := { sA with syncState := .waitGrant }

/-- The resync-ready state (`95_test_vectors.md` section 2.7). -/
def sR : State := { sA with syncState := .resync, owner := .sync }

/-- The resync's SyncFrame wholly unsent. -/
def sS : State := { sR with syncTxRem := 15 }

/-- Fourteen bytes 00 received. -/
def sF : State := { sA with rxBuf := (List.range 14).map (fun i => (i, 0)), rxCnt := 14 }

/-- The state after an operation, the state before it where it stops. -/
def after (i : Instr) (s : State) : State :=
  match exec i s with
  | .next t => t
  | .fault _ => s
  | .refused _ => s

/-- A clock edge on which nothing happens. -/
def quiet : ClockCycle := ⟨true, 0, false, false, 0, false, 0, false, false, 0, false, false⟩

/-! ## WellFormed refuses each ill-formed term -/

theorem test_config_no_slots : ({ tc with nSlots := 0 } : Config).wf = false := by decide
theorem test_config_slots_above_255 : ({ tc with nSlots := 256 } : Config).wf = false := by decide
theorem test_config_threshold_zero : ({ tc with syncTimeoutThrs := 0 } : Config).wf = false := by decide
theorem test_config_threshold_above_255 : ({ tc with syncTimeoutThrs := 256 } : Config).wf = false := by decide
theorem test_config_timeout_zero : ({ tc with byteTimeoutCycles := 0 } : Config).wf = false := by decide
theorem test_config_legal : tc.wf = true ∧ ({ tc with nSlots := 255, syncTimeoutThrs := 255 } : Config).wf = true := by
  decide
theorem test_line_reserved_opcode : (⟨0x0000, []⟩ : TraceLine).wf = false ∧ (⟨0xA000, []⟩ : TraceLine).wf = false := by
  decide
theorem test_line_a_not_zero : (⟨0x1100, []⟩ : TraceLine).wf = false := by decide
theorem test_line_d_not_zero : (⟨0x6001, []⟩ : TraceLine).wf = false := by decide
theorem test_line_operand : (⟨0x3000, []⟩ : TraceLine).wf = false ∧ (⟨0x1000, [0]⟩ : TraceLine).wf = false := by decide
theorem test_line_legal : (⟨0x40FF, []⟩ : TraceLine).wf = true := by decide

/-! ## Decoding: words written from the table of R72 -/

theorem test_decode_init : decode ⟨0b0001_0000_00000000, []⟩ = .ok .init := by rfl
theorem test_decode_start : decode ⟨0b0010_0000_00000000, []⟩ = .ok .start := by rfl
theorem test_decode_reg_read : decode ⟨0b0100_0000_00101000, []⟩ = .ok (.regRead 0x28) := by rfl
theorem test_decode_rx_byte : decode ⟨0b0101_0000_11111110, []⟩ = .ok (.rxByte 0xFE) := by rfl
theorem test_decode_tx_byte : decode ⟨0b0110_0000_00000000, []⟩ = .ok .txByte := by rfl
theorem test_decode_timeout : decode ⟨0b0111_0000_00000000, []⟩ = .ok .timeout := by rfl
theorem test_decode_snd_deq : decode ⟨0b1000_0000_00000000, []⟩ = .ok .sndDeq := by rfl
theorem test_decode_sync_acq : decode ⟨0b1001_0000_00000000, []⟩ = .ok .syncAcq := by rfl

/-- CTL of `95_test_vectors.md`: `Id` 20 on put_data[7:0], the last body byte on put_data[111:104]. -/
theorem test_decode_put_frame :
    decode ⟨0b0011_0000_00000000, [0x20, 0x05, 0xC0, 0xA8, 0x04, 0xFF, 0xA0, 0x0F, 0, 0, 0, 0, 0, 0x7F]⟩ =
      .ok (.putFrame 0x7F00000000000FA0FF04A8C00520) := by rfl

theorem test_decode_table_word : decodeTableWord 16 0x3000 = some (.putFrame 0) ∧ decodeTableWord 16 0x4004 = some (.regRead 4) ∧
    decodeTableWord 16 0xB000 = none := by decide

/-! ## The checksum unit (section 2.1) -/

theorem test_chk_ctl : chk .xor8 [0x20, 0x05, 0xC0, 0xA8, 0x04, 0xFF, 0xA0, 0x0F, 0, 0, 0, 0, 0, 0] = 0x19 ∧
    chk .sum8 [0x20, 0x05, 0xC0, 0xA8, 0x04, 0xFF, 0xA0, 0x0F, 0, 0, 0, 0, 0, 0] = 0x3F := by decide
theorem test_chk_ones : chk .xor8 (List.replicate 14 0xFF) = 0x00 ∧ chk .sum8 (List.replicate 14 0xFF) = 0xF2 := by decide
theorem test_chk_mixed :
    chk .xor8 [0x00, 0x07, 0xA5, 0x5A, 0x01, 0x80, 0x7F, 0xFF, 0x10, 0x20, 0x30, 0x40, 0x50, 0x60] = 0x89 ∧
    chk .sum8 [0x00, 0x07, 0xA5, 0x5A, 0x01, 0x80, 0x7F, 0xFF, 0x10, 0x20, 0x30, 0x40, 0x50, 0x60] = 0x55 := by decide

/-! ## Operations -/

/-- V-C2, V-C3: STATUS after INIT and after START. -/
theorem test_init_status : statusWord (after .init State.reset) = 0x00000001 := by decide
theorem test_start_status : statusWord (after .start (after .init State.reset)) = 0x00000082 := by decide

/-- V-C1, V-C5, V-S9: registers. -/
theorem test_reg_read_reset : regRead 0x04 State.reset = 0 ∧ regRead 0x08 State.reset = 0x61 ∧
    regRead 0x2B State.reset = 0x0F646100 := by decide
theorem test_reg_read_config : configWord { Config.default with syncTimeoutThrs := 1 } = 0x0F016100 := by decide

/-- V-Q1: U1 put into the reference instance. -/
theorem test_put_frame_stores :
    let t := after (.putFrame 0x1111111111111111111111110500) ref
    t.filledQ = [0] ∧ regRead 0x08 t = 0x60 ∧ statusWord t = 0x00000082 ∧
      t.slots.readBytes 0 15 = some [0, 5, 0x11, 0x11, 0x11, 0x11, 0x11, 0x11, 0x11, 0x11, 0x11, 0x11, 0x11, 0x11, 5] := by
  decide

/-- V-Q4: with both slots taken put_ready is 0. -/
theorem test_put_frame_backpressure :
    let t := after (.putFrame 2) (after (.putFrame 1) sA)
    statusWord t = 0x00000002 ∧ enabled (.putFrame 3) t = false := by decide

/-- V-D1. -/
theorem test_snd_deq_granted :
    let t := after .sndDeq sQ
    t.owner = .sender ∧ t.sndState = .tx ∧ t.sndIdx = 0 ∧ statusWord t = 0x000000D2 := by decide

/-- V-D3: denied while the sync FSM owns the channel; the slot goes to the tail of FREE_Q. -/
theorem test_snd_deq_denied :
    let t := after .sndDeq { sR with slots := slot0, freeQ := [1], filledQ := [0] }
    t.stats.lost = 1 ∧ t.freeQ = [1, 0] ∧ t.sndState = .idle := by decide

/-- V-T1: the fifteenth byte. -/
theorem test_tx_byte_last :
    let t := after .txByte sT
    statusWord sT = 0xE00000D2 ∧ t.txOut.length = 15 ∧ t.stats.sent = 1 ∧ t.freeQ = [1, 0] ∧ statusWord t = 0x00000082 := by
  decide

/-- V-T2: the last byte of a SyncFrame keeps the channel. -/
theorem test_tx_byte_sync :
    let t := after .txByte { sR with syncTxRem := 1 }
    t.txOut = [0xFF] ∧ t.syncTxRem = 0 ∧ t.owner = .sync ∧ enabled .txByte t = false := by decide

/-- V-A1. -/
theorem test_sync_acq_status :
    let t := after .syncAcq sW
    statusWord t = 0x0000F0AA ∧ t.stats.syncTriggered = 1 ∧ t.stats.syncFramesSent = 1 := by decide

/-- V-R3: a wrong fifteenth byte; V-R4: a right one. -/
theorem test_rx_byte_bad :
    let t := after (.rxByte 1) sF
    statusWord t = 0x00000086 ∧ t.stats = Stats.zero := by decide
theorem test_rx_byte_good :
    let t := after (.rxByte 0) sF
    t.stats.received = 1 ∧ t.rxCnt = 0 ∧ t.syncState = .synced := by decide

/-- V-S1: the hundredth pass resends. -/
theorem test_timeout_resends :
    let t := after .timeout { ref with syncState := .resync, owner := .sync, tmoCnt := 99 }
    statusWord t = 0x0000F0AA ∧ t.tmoCnt = 0 ∧ t.stats.syncFramesSent = 1 := by decide

/-- V-S5: the fifteenth hit and the threshold in one pass terminate and do not resend. -/
theorem test_pass_terminates_first :
    let t := after (.rxByte 0xFF) { ref with syncState := .resync, owner := .sync, tmoCnt := 99, hitCnt := 14 }
    t.syncState = .synced ∧ t.tmoCnt = 0 ∧ t.stats.syncFramesSent = 0 ∧ t.stats.syncTmoTicks = 1 := by decide

/-- V-S3: in CONTIGUOUS mode noise clears the hits. -/
theorem test_pass_contiguous :
    (after (.rxByte 0) { sR with cfg := { tc with syncHitMode := .contiguous }, hitCnt := 7 }).hitCnt = 0 := by decide

/-! ## Steps -/

theorem test_step_from_reset :
    (match step (State.reset.withFetchWord 16 0x1000) with
      | .next t => decide (t.lstate = .stopped) | .fault _ => false | .refused _ => false) = true := by decide

/-- R205: an rx transfer and START in one cycle: START is performed first, so the byte is a frame byte. -/
theorem test_edge_order :
    (match clockEdge { quiet with regWr := true, regWdata := 2, rxValid := true, rxData := 7 }
        { State.resetWith tc with lstate := .stopped } with
      | .next t => decide (t.lstate = .active ∧ t.rxCnt = 1) | .fault _ => false | .refused _ => false) = true := by decide

/-! ## Witnesses: for each statement with hypotheses, data that meets all of them together -/

/-- A state whose label schedule starts with `x`. -/
def pending (s : State) (x : Input) : State := s.setInputs [x]

/-- The decidable parts of `Conserved`. -/
abbrev ConservedChecks (s : State) : Prop :=
  s.freeQ.length + s.filledQ.length + (if s.sndState = .tx then 1 else 0) = s.cfg.nSlots ∧
    (∀ k, k < s.cfg.nSlots → (allSlots s).count (BitVec.ofNat 8 k) = 1) ∧ ∀ v ∈ allSlots s, v.toNat < s.cfg.nSlots

theorem conserved_of (s : State) (h : ConservedChecks s) : Conserved s := ⟨h.1, h.2.1, h.2.2⟩

/-- The decidable parts of `SenderLegal` and `SyncLegal`. -/
abbrev ControlChecks (s : State) : Prop :=
  ((s.owner = .sender ↔ s.sndState = .tx) ∧ (s.sndState = .idle → s.sndSlot = 0 ∧ s.sndIdx = 0) ∧ s.sndIdx.toNat ≤ 14) ∧
    (s.owner = .sync ↔ s.syncState = .resync) ∧
    (s.syncState ≠ .resync → s.syncTxRem = 0 ∧ s.hitCnt = 0 ∧ s.tmoCnt = 0) ∧ s.hitCnt.toNat ≤ 14 ∧
    s.tmoCnt.toNat < s.cfg.syncTimeoutThrs ∧ s.rxCnt.toNat ≤ 14 ∧ (s.syncState ≠ .synced → s.rxCnt = 0)

theorem syncLegal_of (s : State) (h : ControlChecks s) : SyncLegal s :=
  ⟨h.2.1, h.2.2.1, h.2.2.2.1, h.2.2.2.2.1, h.2.2.2.2.2.1, h.2.2.2.2.2.2⟩

theorem senderLegal_of (s : State) (h : ControlChecks s) : SenderLegal s := ⟨h.1.1, h.1.2.1, h.1.2.2⟩

/-- The decidable parts of `Legal` about the stores, of an ACTIVE state. -/
abbrev StoreChecks (s : State) : Prop :=
  s.cfg.wf = true ∧ s.lstate = .active ∧ s.byteTimer < s.cfg.byteTimeoutCycles ∧
    (∀ v ∈ s.filledQ ++ inFlight s, (slotFrame s v).any (verify s.cfg.checksumAlg) = true) ∧
    (∀ i, i < s.rxCnt.toNat → (s.rxBuf.read i).isSome) ∧ s.slots.wf ∧ s.rxBuf.wf ∧
    (∀ x ∈ s.slots, x.1 < s.cfg.nSlots * frameSize) ∧ ∀ x ∈ s.rxBuf, x.1 < frameSize

theorem legal_of (s : State) (h₁ : ConservedChecks s) (h₂ : ControlChecks s) (h₃ : StoreChecks s) : Legal s where
  cfg := h₃.1
  slots := conserved_of s h₁
  stamped := fun v hv => by
    have h := h₃.2.2.2.1 v hv
    cases hf : slotFrame s v with
    | none => rw [hf] at h; cases h
    | some f => exact ⟨f, rfl, by rw [hf] at h; exact h⟩
  sender := senderLegal_of s h₂
  sync := syncLegal_of s h₂
  stores := ⟨h₃.2.2.2.2.2.1, h₃.2.2.2.2.2.2.1, h₃.2.2.2.2.2.2.2.1, h₃.2.2.2.2.2.2.2.2⟩
  rxWritten := h₃.2.2.2.2.1
  dormant := fun h => absurd h₃.2.1 h
  timer := h₃.2.2.1

theorem legal_sA : Legal sA := legal_of sA (by decide) (by decide) (by decide)
theorem legal_sQ : Legal sQ := legal_of sQ (by decide) (by decide) (by decide)
theorem legal_sT : Legal sT := legal_of sT (by decide) (by decide) (by decide)
theorem legal_sW : Legal sW := legal_of sW (by decide) (by decide) (by decide)
theorem legal_sR : Legal sR := legal_of sR (by decide) (by decide) (by decide)
theorem legal_sS : Legal sS := legal_of sS (by decide) (by decide) (by decide)
theorem legal_sF : Legal sF := legal_of sF (by decide) (by decide) (by decide)

/-- A frame in transmission at byte `k` while a realignment waits. -/
def sTW (k : BitVec 4) : State := { sT with sndIdx := k, syncState := .waitGrant }

/-- Labels at the edges of R74's three conditions. -/
theorem witness_ReservedLabelRefused :
    (∀ l ∈ [0x0000, 0x0FFF, 0xA000, 0xFFFF, 0x1100, 0x9F00, 0x1001, 0x3001, 0x60FF, (0x9001 : Label)],
      l.toNat / 4096 = 0 ∨ 10 ≤ l.toNat / 4096 ∨ l.toNat / 256 % 16 ≠ 0 ∨
        (l.toNat % 256 ≠ 0 ∧ l.toNat / 4096 ≠ 4 ∧ l.toNat / 4096 ≠ 5)) ∧
    sA.cfg.wf = true ∧ (pending sA (.label ⟨0xA000, []⟩)).inputs = .label ⟨0xA000, []⟩ :: [] :=
  ⟨by simp, by decide, rfl⟩

theorem witness_DecodeAcceptsExactlyDefinedLabels :
    decode ⟨0x9000, []⟩ = .ok .syncAcq ∧
      decode ⟨0x3000, List.replicate 14 0xFF⟩ = .ok (.putFrame 0xFFFFFFFFFFFFFFFFFFFFFFFFFFFF) :=
  ⟨rfl, rfl⟩

theorem witness_StepPerformsDecodedLabel :
    (pending sQ (.label ⟨0x8000, []⟩)).cfg.wf = true ∧
      (pending sQ (.label ⟨0x8000, []⟩)).inputs = .label ⟨0x8000, []⟩ :: [] ∧ decode ⟨0x8000, []⟩ = .ok .sndDeq :=
  ⟨by decide, rfl, rfl⟩

theorem witness_StepTakesClockEdge :
    (pending sQ (.cycle quiet)).cfg.wf = true ∧ (pending sQ (.cycle quiet)).inputs = .cycle quiet :: [] := ⟨by decide, rfl⟩

/-- Configurations just outside the legal values; a legal one with nothing pending. -/
theorem witness_ConfigCheckedThenIdle :
    (∀ c ∈ [{ tc with nSlots := 0 }, { tc with nSlots := 256 }, { tc with syncTimeoutThrs := 0 },
        { tc with syncTimeoutThrs := 256 }, ({ tc with byteTimeoutCycles := 0 } : Config)],
      ¬ (1 ≤ c.nSlots ∧ c.nSlots ≤ 255 ∧ 1 ≤ c.syncTimeoutThrs ∧ c.syncTimeoutThrs ≤ 255 ∧ 1 ≤ c.byteTimeoutCycles)) ∧
    sA.cfg.wf = true ∧ sA.inputs = [] := by decide

theorem witness_TraceRunsItsOperations :
    sQ.cfg.wf = true ∧ ∃ t, execAll [.sndDeq, .txByte, .regRead 4] sQ = .next t ∧ t.txOut = [0] := ⟨by decide, _, rfl, rfl⟩

theorem witness_HeldOperationChangesNothing :
    enabled .txByte sA = false ∧ enabled .timeout sS = false ∧ enabled (.rxByte 0) sW = false ∧ enabled .sndDeq sT = false ∧
      enabled .syncAcq sA = false ∧ enabled (.putFrame 0) State.reset = false := by decide

theorem witness_InitMovesUninitToStopped : State.reset.lstate = .uninit ∧ sA.lstate ≠ .uninit := by decide

theorem witness_StartMovesStoppedToActive :
    (after .init State.reset).lstate = .stopped ∧ State.reset.lstate ≠ .stopped ∧ sA.lstate ≠ .stopped := by decide

/-- The first and the last address of each register. -/
theorem witness_RegReadReturnsRegister :
    (∀ k, k < 11 → (BitVec.ofNat 8 (4 * k)).toNat / 4 = k ∧ (BitVec.ofNat 8 (4 * k + 3)).toNat / 4 = k) ∧
      11 ≤ (0x2C : Byte).toNat / 4 ∧ 11 ≤ (0xFF : Byte).toNat / 4 := by decide

theorem witness_StatusFields : (4 : Byte).toNat / 4 = 1 ∧ (7 : Byte).toNat / 4 = 1 := by decide

theorem witness_ConfigFields :
    (∃ t, step (pending sT (.label ⟨0x6000, []⟩)) = .next t) ∧ (0x28 : Byte).toNat / 4 = 10 ∧ (0x2B : Byte).toNat / 4 = 10 ∧
      tc.wf = true ∧ (⟨255, 255, .sum8, .contiguous, .timeoutOnly, 1⟩ : Config).wf = true :=
  ⟨⟨_, rfl⟩, by decide, by decide, by decide, by decide⟩

/-- One edge for each of the three clauses, at the last address of CTRL and the first past it. -/
theorem witness_RegisterWriteIsCommand :
    let c := { quiet with regWr := true, regAddr := 3, regWdata := 0xFFFFFFFD }
    (c.rstN = true ∧ c.regWr = true ∧ c.regRd = false ∧ c.putValid = false ∧ c.txReady = false ∧ c.rxValid = false ∧
      c.syncGo = false ∧ c.sndGo = false ∧ passPossible sA = false) ∧
    (c.regAddr.toNat < 4 ∧ c.regWdata.toNat % 4 = 1) ∧ (0xFFFFFFFE : Reg).toNat % 4 = 2 ∧ ¬ (4 : Byte).toNat < 4 ∧
      (0 : Reg).toNat % 4 ≠ 1 ∧ (0 : Reg).toNat % 4 ≠ 2 ∧ (3 : Reg).toNat % 4 ≠ 1 ∧ (3 : Reg).toNat % 4 ≠ 2 := by decide

theorem witness_LifecycleOnlyMovesForward :
    (∃ t, exec .init State.reset = .next t ∧ t.lstate = .stopped) ∧
    (enabled .sndDeq sQ = true ∧ enabled (.rxByte 0) State.reset = true) ∧
    (∃ t, clockEdge { quiet with rstN := false } sT = .next t) ∧ quiet.rstN = true ∧ sT.lstate = .active ∧
      ∃ t, clockEdge quiet sT = .next t :=
  ⟨⟨_, rfl, rfl⟩, by decide, ⟨_, rfl⟩, rfl, rfl, _, rfl⟩

/-- A state and an operation for each counter's clause. -/
theorem witness_CountersHaveOneWriter :
    (∃ t, exec .txByte sT = .next t) ∧ sT.lstate = .active ∧ sT.owner = .sender ∧ sT.sndState = .tx ∧ sT.sndIdx = 14 ∧
    (∃ t, exec (.rxByte 0) sF = .next t ∧ t.syncState = .synced) ∧ sF.lstate = .active ∧ sF.syncState = .synced ∧
      sF.rxCnt = 14 ∧
    (∃ t, exec .sndDeq { sQ with syncState := .waitGrant } = .next t) ∧
      sndReady { sQ with syncState := .waitGrant } = true ∧ tryGranted { sQ with syncState := .waitGrant } = false ∧
    (∃ t, exec .syncAcq sW = .next t ∧ t.syncTxRem = 15) ∧ syncReady sW = true ∧ sW.syncTxRem = 0 ∧
    (∃ t, exec .timeout sR = .next t) ∧ passPossible sR = true ∧ (∃ t, exec (.rxByte 0) sR = .next t) ∧
      sR.cfg.tmoCountMode = .everyPass :=
  ⟨⟨_, rfl⟩, rfl, rfl, rfl, rfl, ⟨_, rfl, rfl⟩, rfl, rfl, rfl, ⟨_, rfl⟩, rfl, rfl, ⟨_, rfl, rfl⟩, rfl, rfl, ⟨_, rfl⟩, rfl,
    ⟨_, rfl⟩, rfl⟩

theorem witness_SentPlusLostCountsDequeues : ∃ t, exec .sndDeq sQ = .next t ∧ t.sndState = .tx := ⟨_, rfl, rfl⟩

/-- The highest slot of the instance free, the filled FIFO one short of full. -/
theorem witness_PutFrameStoresStampedFrame :
    let s : State := { sQ with freeQ := [1] }
    s.lstate = .active ∧ s.freeQ = 1 :: [] ∧ (1 : SlotIx).toNat < s.cfg.nSlots ∧ s.filledQ.length < s.cfg.nSlots ∧
      (1 : SlotIx) ∉ s.filledQ ∧ s.slots.wf := by decide

theorem witness_PutReadyWhileSlotsRemain : Conserved sQ ∧ sQ.lstate = .active := ⟨legal_sQ.slots, rfl⟩

theorem witness_FreeSlotsBoundAcceptedBodies :
    Conserved sA ∧ sA.lstate = .active ∧ [(1 : PutData), 2].length = sA.freeQ.length := ⟨legal_sA.slots, rfl, rfl⟩

/-- An operation for each way a slot moves. -/
theorem witness_SlotsMoveOnlyAsRuled :
    (∃ t, exec (.putFrame 7) sA = .next t) ∧ (∃ t, exec .sndDeq sQ = .next t) ∧
      (∃ t, exec .sndDeq { sQ with syncState := .waitGrant } = .next t) ∧ ∃ t, exec .txByte sT = .next t :=
  ⟨⟨_, rfl⟩, ⟨_, rfl⟩, ⟨_, rfl⟩, _, rfl⟩

theorem witness_SlotsConserved :
    Conserved (pending sQ (.label ⟨0x8000, []⟩)) ∧ ∃ t, step (pending sQ (.label ⟨0x8000, []⟩)) = .next t ∧ t.sndState = .tx :=
  ⟨conserved_of _ (by decide), _, rfl, rfl⟩

theorem witness_SlotsConservedAtReset : Config.default.wf = true ∧ ({ tc with nSlots := 255 } : Config).wf = true := by
  decide

theorem witness_QueuedFramesUnchanged :
    Conserved sQ ∧ (∃ t, exec (.putFrame 9) sQ = .next t) ∧ (0 : SlotIx) ∈ sQ.filledQ ++ inFlight sQ ∧
      (0 : SlotIx) ∈ sT.filledQ ++ inFlight sT :=
  ⟨legal_sQ.slots, ⟨_, rfl⟩, by decide, by decide⟩

theorem witness_SndDeqTriesChannel :
    (sQ.lstate = .active ∧ sQ.sndState = .idle ∧ sQ.filledQ = 0 :: [] ∧ sQ.owner = .none ∧ sQ.syncState ≠ .waitGrant) ∧
    (¬ (({ sQ with syncState := .waitGrant } : State).owner = .none ∧
      ({ sQ with syncState := .waitGrant } : State).syncState ≠ .waitGrant)) ∧
    sQ.freeQ.length < sQ.cfg.nSlots ∧ (0 : SlotIx) ∉ sQ.freeQ := by decide

theorem witness_SndDeqTriesChannel_denied : SenderLegal sQ ∧ enabled .sndDeq sQ = true := ⟨legal_sQ.sender, rfl⟩

/-- The first, the fourteenth and the fifteenth byte of a frame; the first and the last of a SyncFrame. -/
theorem witness_TxByteEmitsOwnersByte :
    (∀ k ∈ [0, (13 : BitVec 4)], let s := { sT with sndIdx := k }
      s.lstate = .active ∧ s.owner = .sender ∧ s.sndState = .tx ∧ s.sndSlot.toNat < s.cfg.nSlots ∧
        s.slots.read (slotAddr s.sndSlot s.sndIdx.toNat) = some 0 ∧ s.sndIdx.toNat < 14) ∧
    (sT.slots.read (slotAddr sT.sndSlot 14) = some 0 ∧ sT.sndIdx = 14 ∧ sT.freeQ.length < sT.cfg.nSlots ∧
      sT.sndSlot ∉ sT.freeQ) ∧
    ∀ r ∈ [1, (15 : BitVec 4)], let s := { sR with syncTxRem := r }
      s.lstate = .active ∧ s.owner = .sync ∧ 0 < s.syncTxRem.toNat := by decide

theorem witness_OfferedByteIsStable :
    (Legal sT ∧ enabled .txByte sT = true ∧ txData sT = some 0 ∧ ∃ t, exec .txByte sT = .next t ∧ t.txOut = sT.txOut ++ [0]) ∧
      (∃ t, exec (.rxByte 7) sT = .next t) ∧ Legal sS ∧ txData sS = some 0xFF ∧ (∃ t, exec (.putFrame 7) sS = .next t) ∧
      (.rxByte 7 : Instr) ≠ .txByte ∧ (.putFrame 7 : Instr) ≠ .txByte ∧ Legal sA ∧ enabled .txByte sA = false :=
  ⟨⟨legal_sT, rfl, rfl, _, rfl, rfl⟩, ⟨_, rfl⟩, legal_sS, rfl, ⟨_, rfl⟩, by decide, by decide, legal_sA, rfl⟩

theorem witness_SendTransmitsWholeFrame :
    Legal sQ ∧ sQ.lstate = .active ∧ sQ.sndState = .idle ∧ sQ.filledQ = 0 :: [] ∧ sQ.owner = .none ∧
      sQ.syncState ≠ .waitGrant := ⟨legal_sQ, rfl, rfl, rfl, rfl, by decide⟩

theorem witness_TransmitStreamIsWholeFrames :
    Legal (pending sT (.label ⟨0x6000, []⟩)) ∧ WholeFrames (pending sT (.label ⟨0x6000, []⟩)) ∧
      ∃ t, step (pending sT (.label ⟨0x6000, []⟩)) = .next t ∧ t.stats.sent = 1 :=
  ⟨legal_of _ (by decide) (by decide) (by decide), ⟨[], by simp, by decide, by decide, by decide⟩, _, rfl, rfl⟩

theorem witness_SyncAcqTakesChannel : sW.lstate = .active ∧ sW.syncState = .waitGrant ∧ sW.owner = .none := by decide

/-- An operation for each change of OWNER. -/
theorem witness_OwnerChangesOnlyAsRuled :
    (SyncLegal sQ ∧ ∃ t, exec .sndDeq sQ = .next t) ∧ (SyncLegal sW ∧ ∃ t, exec .syncAcq sW = .next t) ∧
      (SyncLegal sT ∧ ∃ t, exec .txByte sT = .next t) ∧
      SyncLegal { sR with hitCnt := 14 } ∧ ∃ t, exec (.rxByte 0xFF) { sR with hitCnt := 14 } = .next t ∧ t.owner = .none :=
  ⟨⟨legal_sQ.sync, _, rfl⟩, ⟨legal_sW.sync, _, rfl⟩, ⟨legal_sT.sync, _, rfl⟩, syncLegal_of _ (by decide), _, rfl, rfl⟩

theorem witness_SyncStateTransitions :
    (SyncLegal sF ∧ ∃ t, exec (.rxByte 1) sF = .next t ∧ t.syncState = .waitGrant) ∧
      (SyncLegal sW ∧ ∃ t, exec .syncAcq sW = .next t ∧ t.syncState = .resync) ∧
      SyncLegal { sR with hitCnt := 14 } ∧ ∃ t, exec (.rxByte 0xFF) { sR with hitCnt := 14 } = .next t ∧ t.syncState = .synced :=
  ⟨⟨legal_sF.sync, _, rfl, rfl⟩, ⟨legal_sW.sync, _, rfl, rfl⟩, syncLegal_of _ (by decide), _, rfl, rfl⟩

theorem witness_RealignmentTakesPrecedence :
    (SyncLegal sW ∧ sW.syncState ≠ .synced ∧ sW.owner ≠ .sender ∧ sW.owner = .none ∧
      ∃ t, exec .syncAcq sW = .next t ∧ t.owner ≠ .none) ∧
    SyncLegal { sQ with syncState := .waitGrant } ∧ enabled .sndDeq { sQ with syncState := .waitGrant } = true ∧
      ∃ t, exec .sndDeq { sQ with syncState := .waitGrant } = .next t :=
  ⟨⟨legal_sW.sync, by decide, by decide, rfl, _, rfl, by decide⟩, syncLegal_of _ (by decide), rfl, _, rfl⟩

/-- The failed verify at the frame's first byte and at its last. -/
theorem witness_SyncWaitIsBounded :
    (Legal (sTW 0) ∧ (sTW 0).lstate = .active ∧ (sTW 0).syncState = .waitGrant ∧ (sTW 0).owner = .sender) ∧
      Legal (sTW 14) ∧ (sTW 14).syncState = .waitGrant :=
  ⟨⟨legal_of _ (by decide) (by decide) (by decide), rfl, rfl, rfl⟩, legal_of _ (by decide) (by decide) (by decide), rfl⟩

theorem witness_AcquireSendsWholeSyncFrame : sW.lstate = .active ∧ sW.syncState = .waitGrant ∧ sW.owner = .none := by
  decide

/-- The premises of the pass statement on the counts after it. -/
abbrev PassPremises (s : State) (b : Option Byte) (tmo : BitVec 8) (hit : BitVec 4) (ticks : Reg) : Prop :=
  (s.lstate = .active ∧ s.syncState = .resync ∧ s.syncTxRem = 0) ∧
    (s.cfg.tmoCountMode = .everyPass ∨ b = none → tmo = s.tmoCnt + 1 ∧ ticks = s.stats.syncTmoTicks + 1) ∧
    (¬ (s.cfg.tmoCountMode = .everyPass ∨ b = none) → tmo = s.tmoCnt ∧ ticks = s.stats.syncTmoTicks) ∧
    (b = some 0xFF → hit = s.hitCnt + 1) ∧
    (b ≠ some 0xFF → b ≠ none → s.cfg.syncHitMode = .contiguous → hit = 0) ∧
    (b ≠ some 0xFF → b = none ∨ s.cfg.syncHitMode = .cumulative → hit = s.hitCnt)

/-- The fifteenth hit; the pass that meets the threshold; noise in both modes; a byte under TIMEOUT_ONLY. -/
theorem witness_ResyncPassCountsThenSettles :
    PassPremises { sR with hitCnt := 14 } (some 0xFF) 1 15 1 ∧ PassPremises { sR with tmoCnt := 1, hitCnt := 3 } none 2 3 1 ∧
      PassPremises { sR with hitCnt := 14 } (some 0xFE) 1 14 1 ∧
      PassPremises { sR with cfg := { tc with syncHitMode := .contiguous }, hitCnt := 14 } (some 0) 1 0 1 ∧
      PassPremises { sR with cfg := { tc with tmoCountMode := .timeoutOnly }, tmoCnt := 1 } (some 0) 1 0 0 := by
  simp [PassPremises, sR, sA, State.resetWith, tc, Stats.zero]

theorem witness_TimeoutNeverTerminates :
    SyncLegal { sR with hitCnt := 14 } ∧ ∃ t, exec .timeout { sR with hitCnt := 14 } = .next t ∧ t.hitCnt = 14 :=
  ⟨syncLegal_of _ (by decide), _, rfl, rfl⟩

/-- The smallest threshold that meets the premise under EVERY_PASS, and threshold 1 under TIMEOUT_ONLY. -/
theorem witness_FifteenHitsEndResync :
    ∀ c ∈ [{ tc with syncTimeoutThrs := 15 }, ({ tc with syncTimeoutThrs := 1, tmoCountMode := .timeoutOnly } : Config)],
      let s := { sR with cfg := c }
      s.lstate = .active ∧ s.syncState = .resync ∧ s.syncTxRem = 0 ∧ s.hitCnt = 0 ∧ s.cfg.wf = true ∧
        (s.cfg.tmoCountMode = .everyPass → s.tmoCnt.toNat + 14 < s.cfg.syncTimeoutThrs) ∧
        s.tmoCnt.toNat < s.cfg.syncTimeoutThrs := by decide

theorem witness_FifteenHitsEndResync_run :
    ∃ t, execAll (List.replicate 14 (.rxByte 0xFF)) { sR with cfg := { tc with syncTimeoutThrs := 15 } } = .next t ∧
      t.hitCnt = 14 := ⟨_, rfl, rfl⟩

/-- No tick counted yet, and one short of the threshold. -/
theorem witness_TimeoutsResendSyncFrame :
    (Legal sR ∧ sR.lstate = .active ∧ sR.syncState = .resync ∧ sR.syncTxRem = 0) ∧ Legal { sR with tmoCnt := 1, hitCnt := 14 } :=
  ⟨⟨legal_sR, rfl, rfl, rfl⟩, legal_of _ (by decide) (by decide) (by decide)⟩

theorem witness_RxByteReadyAndDiscard : State.reset.lstate ≠ .active := by decide

/-- The first byte of a frame, the fourteenth, and the fifteenth with a right and a wrong checksum. -/
theorem witness_RxByteAssemblesFrame :
    (sA.lstate = .active ∧ sA.syncState = .synced ∧ sA.rxCnt.toNat < 14) ∧
      ({ sF with rxCnt := 13 } : State).rxCnt.toNat < 14 ∧
      (sF.lstate = .active ∧ sF.syncState = .synced ∧ sF.rxCnt = 14 ∧ (List.replicate 14 (0 : Byte)).length = 14 ∧
        ∀ j, j < 14 → sF.rxBuf.read j = (List.replicate 14 (0 : Byte))[j]?) ∧
      chk sF.cfg.checksumAlg (List.replicate 14 0) = 0 ∧ chk sF.cfg.checksumAlg (List.replicate 14 0) ≠ 1 := by decide

theorem witness_FifteenBytesMakeAFrame :
    (List.replicate 14 (0xFF : Byte)).length = 14 ∧ sA.lstate = .active ∧ sA.syncState = .synced ∧ sA.rxCnt = 0 := by decide

theorem witness_ChecksumIsXorOrSum : (0 : Nat) < 8 ∧ (7 : Nat) < 8 := by decide

theorem witness_StampedFrameVerifies : (List.replicate 14 (0xFF : Byte)).length = 14 := by decide

/-- A flip in the first byte's lowest bit and in the checksum's highest. -/
theorem witness_SingleBitErrorDetected :
    let f : List Byte := List.replicate 15 0
    f.length = 15 ∧ (0 < 8 ∧ 7 < 8) ∧ f[0]? = some 0 ∧ f[14]? = some 0 ∧ verify .xor8 f = true ∧ verify .sum8 f = true := by
  decide

theorem witness_SyncFrameNeverVerifies : (List.replicate 14 (0xFF : Byte)).length = 14 := by decide

theorem witness_StoresHaveOneWriter :
    (∃ t, exec .txByte sT = .next t) ∧ (∃ t, exec (.rxByte 0xFF) sR = .next t) ∧ sR.syncState ≠ .synced ∧
      (∀ d, (.txByte : Instr) ≠ .putFrame d) ∧ ∀ a, (.txByte : Instr) ≠ .regRead a :=
  ⟨⟨_, rfl⟩, ⟨_, rfl⟩, by decide, fun _ => Instr.noConfusion, fun _ => Instr.noConfusion⟩

theorem witness_LegalStatesKept :
    Legal (pending sT (.label ⟨0x6000, []⟩)) ∧ ∃ t, step (pending sT (.label ⟨0x6000, []⟩)) = .next t ∧ t.freeQ = [1, 0] :=
  ⟨legal_of _ (by decide) (by decide) (by decide), _, rfl, rfl⟩

theorem witness_ResetIsLegal : Config.default.wf = true := by decide

theorem witness_NoModelFaultFromLegalState : Legal sT := legal_sT

theorem witness_ReachableStatesAreSafe :
    tc.wf = true ∧ ∃ t, Reachable tc t ∧ t.lstate = .stopped :=
  ⟨by decide, _, .step (.reset [.label ⟨0x1000, []⟩]) rfl, rfl⟩

theorem witness_ResetEdgeRestoresResetState : ({ quiet with rstN := false } : ClockCycle).rstN = false := by decide

/-- An edge on which every port moves, an engine acts and CTRL is written (at its last address, with a pass possible); one on
which the requester acts; one on which the timer expires. -/
theorem witness_ClockEdgeIsLabelledSteps :
    let c := { quiet with regRd := true, txReady := true, rxValid := true, putValid := true };
    (Legal sT ∧ c.rstN = true ∧ c.regRd = true ∧ (c.txReady = true ∧ enabled .txByte sT = true) ∧
      (c.rxValid = true ∧ enabled (.rxByte 0) sT = true) ∧ (c.putValid = true ∧ enabled (.putFrame 0) sT = true)) ∧
    (let w := { quiet with regWr := true, regAddr := 3, regWdata := 0xFFFFFFFE, sndGo := true, syncGo := true };
      w.rstN = true ∧ w.regWr = true ∧ w.regAddr.toNat < 4 ∧ w.regWdata.toNat % 4 = 2 ∧ passPossible sR = true ∧ Legal sQ ∧
        w.sndGo = true ∧ enabled .sndDeq sQ = true ∧ Legal sW ∧ w.syncGo = true ∧ enabled .syncAcq sW = true) ∧
    Legal { sR with byteTimer := 2 } ∧ quiet.rxValid = false ∧ enabled .timeout { sR with byteTimer := 2 } = true ∧
      sR.cfg.byteTimeoutCycles ≤ 2 + 1 :=
  ⟨⟨legal_sT, rfl, rfl, ⟨rfl, rfl⟩, ⟨rfl, rfl⟩, rfl, rfl⟩,
    ⟨rfl, rfl, by decide, by decide, rfl, legal_sQ, rfl, rfl, legal_sW, rfl, rfl⟩,
    legal_of _ (by decide) (by decide) (by decide), rfl, rfl, by decide⟩

/-- R205: a read, a CTRL write and the last byte of a frame in one cycle; the read sees the state before the cycle. -/
theorem test_edge_read_before_byte :
    (match clockEdge { quiet with regRd := true, regAddr := 4, regWr := true, regWdata := 1, txReady := true } sT with
      | .next t => decide (t.rdOut = [0xE00000D2] ∧ t.stats.sent = 1) | .fault _ => false | .refused _ => false) = true := by
  decide

theorem witness_PinsFollowGuards : quiet.rstN = true := by decide

/-- No pass possible; a transfer; one cycle before expiry; the cycle of expiry. -/
theorem witness_ByteTimerRuns :
    (quiet.rstN = true ∧ (∃ t, clockEdge quiet sA = .next t) ∧ passPossible sA = false) ∧
    (passPossible sR = true ∧ (∃ t, clockEdge { quiet with rxValid := true } sR = .next t)) ∧
    ((∃ t, clockEdge quiet { sR with byteTimer := 1 } = .next t) ∧ 1 + 1 < sR.cfg.byteTimeoutCycles ∧ quiet.rxValid = false) ∧
    (∃ t, clockEdge quiet { sR with byteTimer := 2 } = .next t) ∧ sR.cfg.byteTimeoutCycles ≤ 2 + 1 :=
  ⟨⟨rfl, ⟨_, rfl⟩, rfl⟩, ⟨rfl, _, rfl⟩, ⟨⟨_, rfl⟩, by decide, rfl⟩, ⟨_, rfl⟩, by decide⟩

end Sys2Proof.Tests
end

section
/-! SUPPORT. Every field of the state after a PUT_FRAME (R140). -/

namespace Sys2Proof.Machine

variable (s : State) (d : PutData) (v : SlotIx) (q : List SlotIx)

@[simp] theorem putResult_freeQ : (putResult s d v q).freeQ = q := by simp [putResult]
@[simp] theorem putResult_filledQ : (putResult s d v q).filledQ = s.filledQ ++ [v] := by simp [putResult]
@[simp] theorem putResult_slots : (putResult s d v q).slots =
    s.slots.writeBytes (slotAddr v 0) (stamp s.cfg.checksumAlg (bodyBytes d)) := by simp [putResult]
@[simp] theorem putResult_cfg : (putResult s d v q).cfg = s.cfg := by simp [putResult]
@[simp] theorem putResult_lstate : (putResult s d v q).lstate = s.lstate := by simp [putResult]
@[simp] theorem putResult_sndState : (putResult s d v q).sndState = s.sndState := by simp [putResult]
@[simp] theorem putResult_sndSlot : (putResult s d v q).sndSlot = s.sndSlot := by simp [putResult]
@[simp] theorem putResult_sndIdx : (putResult s d v q).sndIdx = s.sndIdx := by simp [putResult]
@[simp] theorem putResult_owner : (putResult s d v q).owner = s.owner := by simp [putResult]
@[simp] theorem putResult_rxBuf : (putResult s d v q).rxBuf = s.rxBuf := by simp [putResult]
@[simp] theorem putResult_rxCnt : (putResult s d v q).rxCnt = s.rxCnt := by simp [putResult]
@[simp] theorem putResult_syncState : (putResult s d v q).syncState = s.syncState := by simp [putResult]
@[simp] theorem putResult_syncTxRem : (putResult s d v q).syncTxRem = s.syncTxRem := by simp [putResult]
@[simp] theorem putResult_hitCnt : (putResult s d v q).hitCnt = s.hitCnt := by simp [putResult]
@[simp] theorem putResult_tmoCnt : (putResult s d v q).tmoCnt = s.tmoCnt := by simp [putResult]
@[simp] theorem putResult_stats : (putResult s d v q).stats = s.stats := by simp [putResult]
@[simp] theorem putResult_byteTimer : (putResult s d v q).byteTimer = s.byteTimer := by simp [putResult]
@[simp] theorem putResult_inputs : (putResult s d v q).inputs = s.inputs := by simp [putResult]
@[simp] theorem putResult_txOut : (putResult s d v q).txOut = s.txOut := by simp [putResult]
@[simp] theorem putResult_rdOut : (putResult s d v q).rdOut = s.rdOut := by simp [putResult]
@[simp] theorem inFlight_putResult : inFlight (putResult s d v q) = inFlight s := inFlight_congr (by simp) (by simp)

end Sys2Proof.Machine
end

section
/-! SUPPORT. The configuration check as arithmetic (R4), and that decoding inverts encoding (R52, R70 to R72, R76). -/

namespace Sys2Proof

/-- R4's legal values as arithmetic. -/
theorem Config.wf_iff {c : Config} :
    c.wf = true ↔ 1 ≤ c.nSlots ∧ c.nSlots ≤ 255 ∧ 1 ≤ c.syncTimeoutThrs ∧ c.syncTimeoutThrs ≤ 255 ∧
      1 ≤ c.byteTimeoutCycles := by
  simp [Config.wf, and_assoc]

/-- Body byte i as a digit of put_data in base 256 (R52). -/
theorem bodyByte_toNat (d : PutData) (i : Nat) : (bodyByte d i).toNat = d.toNat / 256 ^ i % 256 := by
  simp [bodyByte, BitVec.extractLsb'_toNat, Nat.shiftRight_eq_div_pow, Nat.pow_mul]

theorem packBytes_concat (bs : List Byte) (b : Byte) :
    packBytes (bs ++ [b]) = packBytes bs + 256 ^ bs.length * b.toNat := by
  induction bs with
  | nil => simp [packBytes]
  | cons c bs ih => simp only [List.cons_append, packBytes, ih, List.length_cons]; ring

/-- The first n body bytes packed are put_data modulo 256^n. -/
theorem packBytes_bodyBytes (d : PutData) (n : Nat) :
    packBytes ((List.range n).map (bodyByte d)) = d.toNat % 256 ^ n := by
  induction n with
  | zero => simp [packBytes, Nat.mod_one]
  | succ n ih =>
    rw [List.range_succ, List.map_append, List.map_singleton, packBytes_concat, ih, bodyByte_toNat, Nat.mod_pow_succ]
    simp

@[simp] theorem putDataOf_bodyBytes (d : PutData) : putDataOf (bodyBytes d) = d := by
  apply BitVec.eq_of_toNat_eq
  have := d.isLt
  rw [putDataOf, bodyBytes, packBytes_bodyBytes, BitVec.toNat_ofNat, bodySize]
  omega

@[simp] theorem fieldD_append (k a : Byte) : fieldD (k ++ a) = a := by
  apply BitVec.eq_of_getLsbD_eq
  intro j hj
  simp only [fieldD, BitVec.getLsbD_extractLsb', BitVec.getLsbD_append, hj, Nat.zero_add, decide_true, Bool.true_and,
    if_true]

theorem decode_encode (i : Instr) : decode (encode i) = .ok i := by
  cases i with
  | putFrame d =>
    have hl : (bodyBytes d).length = bodySize := Machine.bodyBytes_length d
    simp [decode, encode, labelOf, operandOf, fieldA, opcOf, withBody, fieldD, hl]
  | regRead a => simp [decode, encode, labelOf, operandOf, noOperand, Laws.fields_append]
  | rxByte b => simp [decode, encode, labelOf, operandOf, noOperand, Laws.fields_append]
  | init | start | txByte | timeout | sndDeq | syncAcq => rfl

end Sys2Proof
end

section
/-! SUPPORT. What one step is, by the next pending input (R8); and the configuration check (R4). Then the statements on
single steps and on traces. -/

namespace Sys2Proof.Machine

theorem step_of_inputs_nil {s : State} (hw : s.cfg.wf = true) (hi : s.inputs = []) : step s = .next s := by
  simp [step, hw, runNext, hi]

theorem step_of_inputs_cons {s : State} {x : Input} {rest : List Input} (hw : s.cfg.wf = true)
    (hi : s.inputs = x :: rest) : step s = runInput x (s.setInputs rest) := by
  simp [step, hw, runNext, hi]

theorem runInput_label_ok {t : TraceLine} {i : Instr} (hd : decode t = .ok i) (s : State) :
    runInput (.label t) s = exec i s := by
  simp [runInput, runLabel, hd]

theorem runInput_label_error {t : TraceLine} {e : DecodeError} (hd : decode t = .error e) (s : State) :
    runInput (.label t) s = .refused (rejection e) := by
  simp [runInput, runLabel, hd]

theorem step_of_illegal_config {s : State} (hw : s.cfg.wf = false) : step s = .refused .illegalConfig := by
  simp [step, hw]

/-- Settles O5: the step takes the label off the schedule and runs what it decodes to. -/
theorem stepPerformsDecodedLabel : Obligations.StepPerformsDecodedLabel := by
  intro s t rest i hw hi hd
  exact (step_of_inputs_cons hw hi).trans (runInput_label_ok hd _)

/-- Settles O7, by the two outcomes of the configuration check. -/
theorem configCheckedThenIdle : Obligations.ConfigCheckedThenIdle := by
  refine fun s => ⟨fun hbad => step_of_illegal_config ?_, step_of_inputs_nil⟩
  rwa [← Config.wf_iff, Bool.not_eq_true] at hbad

/-- Settles O9: every meaning with a guard tests it first and answers `held` when it is false. -/
theorem heldOperationChangesNothing : Obligations.HeldOperationChangesNothing := by
  intro i s h
  cases i with
  | init | start | regRead a => cases h
  | putFrame | rxByte | txByte | timeout | sndDeq | syncAcq => exact if_neg (Bool.eq_false_iff.1 h)

/-- No operation writes the parameters (log 1). -/
theorem exec_cfg {i : Instr} {s t : State} (h : exec i s = .next t) : t.cfg = s.cfg := by
  cases exec_effect h <;> simp

/-- A step on the encoding of an operation, that operation's answer with the schedule's rest (log 4). -/
theorem step_encode {i : Instr} {rest : List Input} {s u : State} (hw : s.cfg.wf = true) (hu : exec i s = .next u) :
    step (s.setInputs (.label (encode i) :: rest)) = .next (u.setInputs rest) :=
  calc step (s.setInputs (.label (encode i) :: rest))
      = exec i (s.setInputs rest) :=
        (step_of_inputs_cons (by exact hw) rfl).trans (runInput_label_ok (decode_encode i) _)
    _ = .next (u.setInputs rest) := by rw [exec_setInputs, hu]; rfl

theorem run_succ {k : Nat} {s u : State} (h : step s = .next u) :
    Host.Core.run core (k + 1) s = Host.Core.run core k u := by
  have hcore : core.step s = .next u := h
  simp only [Host.Core.run, hcore]

/-- Settles O8, by induction on the operations: each step performs one and leaves the rest of the schedule. -/
theorem traceRunsItsOperations : Obligations.TraceRunsItsOperations := by
  intro is rest s t hw h
  induction is generalizing s with
  | nil => cases h; rfl
  | cons i is ih =>
    obtain ⟨u, hu, ht⟩ := execAll_cons.1 h
    exact (run_succ (step_encode hw hu)).trans (ih u (by rwa [exec_cfg hu]) ht)

end Sys2Proof.Machine
end

section
/-! SUPPORT. Where a slot index can be (R65), and what a legal state gives the operations that read a slot or RX_BUF: from a
legal state every operation answers a next state. -/

namespace Sys2Proof.Machine

/-! ## Slot indices (R65) -/

theorem Conserved.nodup {s : State} (h : Conserved s) : (allSlots s).Nodup :=
  List.nodup_iff_count_eq_one.2 fun _ hv => h.count_eq_one hv

theorem Conserved.length_allSlots {s : State} (h : Conserved s) : (allSlots s).length = s.cfg.nSlots := by
  have hlen : (inFlight s).length = if s.sndState = .tx then 1 else 0 := by unfold inFlight; split <;> rfl
  simp only [allSlots, List.length_append, hlen, h.total]

/-- A slot queued or in transmission is in range and not free, so a release of it finds room (R144). -/
theorem Conserved.release {s : State} (h : Conserved s) {v : SlotIx} (hv : v ∈ s.filledQ ++ inFlight s) :
    v.toNat < s.cfg.nSlots ∧ s.freeQ.length < s.cfg.nSlots ∧ v ∉ s.freeQ := by
  have hall : allSlots s = s.freeQ ++ (s.filledQ ++ inFlight s) := List.append_assoc ..
  refine ⟨h.inRange v (by rw [hall]; exact List.mem_append_right _ hv), ?_, fun hf => ?_⟩
  · rw [← h.length_allSlots, hall, List.length_append]
    have := List.length_pos_of_mem hv
    omega
  · exact (List.disjoint_of_nodup_append (hall ▸ h.nodup)) hf hv

/-- A free slot is in range and neither queued nor in transmission, so enqueueing it finds room (R142). -/
theorem Conserved.acquire {s : State} (h : Conserved s) {v : SlotIx} {q : List SlotIx} (hv : s.freeQ = v :: q) :
    v.toNat < s.cfg.nSlots ∧ s.filledQ.length < s.cfg.nSlots ∧ v ∉ s.filledQ ++ inFlight s := by
  have hall : allSlots s = v :: (q ++ (s.filledQ ++ inFlight s)) := by simp [allSlots, hv]
  have hnd := h.nodup
  rw [hall, List.nodup_cons, List.mem_append, not_or] at hnd
  refine ⟨h.inRange v (by simp [hall]), ?_, hnd.1.2⟩
  rw [← h.length_allSlots, hall]
  simp only [List.length_cons, List.length_append]
  omega

/-! ## Reading what was written (R22, R29) -/

/-- Reading n bytes succeeds when each of them is written. -/
theorem Memory.exists_readBytes {m : Memory} {a n : Nat} (h : ∀ i, i < n → (m.read (a + i)).isSome) :
    ∃ bs, m.readBytes a n = some bs := by
  induction n generalizing a with
  | zero => exact ⟨[], rfl⟩
  | succ n ih =>
    obtain ⟨b, hb⟩ := Option.isSome_iff_exists.1 (h 0 (by omega))
    obtain ⟨bs, hbs⟩ := ih (a := a + 1) fun i hi => by
      rw [show a + 1 + i = a + (i + 1) by omega]; exact h (i + 1) (by omega)
    exact ⟨b :: bs, by simp_all [Memory.readBytes]⟩

/-- Every byte of a queued or transmitted slot is written (R22). -/
theorem SlotsStamped.exists_read {s : State} (h : SlotsStamped s) {v : SlotIx} (hv : v ∈ s.filledQ ++ inFlight s)
    {i : Nat} (hi : i < frameSize) : ∃ b, s.slots.read (slotAddr v i) = some b := by
  obtain ⟨f, hf, -⟩ := h v hv
  obtain ⟨hlen, hread⟩ := Memory.readBytes_eq_some.1 hf
  exact ⟨f[i], by rw [← List.getElem?_eq_getElem, ← hread i hi]; rfl⟩

/-- With 14 bytes received and the fifteenth stored RX_BUF reads whole (R29, R161). -/
theorem RxWritten.exists_readBytes {s : State} (h : RxWritten s) (hcnt : s.rxCnt.toNat = bodySize) (b : Byte) :
    ∃ f, (s.rxPut b).rxBuf.readBytes 0 frameSize = some f := by
  refine Memory.exists_readBytes fun i hi => ?_
  rw [State.rxPut_rxBuf, Memory.read_write]
  split
  · rfl
  · refine h _ ?_
    simp only [bodySize, frameSize] at *; omega

/-! ## The four meanings with a pseudocode that can fault -/

theorem Legal.exists_putFrameBody {s : State} (h : Legal s) (hr : putReady s = true) (d : PutData) :
    ∃ t, putFrameBody d s = .ok t := by
  obtain ⟨v, q, hq⟩ := List.exists_cons_of_length_pos (putReady_iff.1 hr).2
  obtain ⟨hv, hroom, hnew⟩ := h.slots.acquire hq
  exact ⟨_, putFrameBody_eq_ok.2
    ⟨v, q, hq, slotAddr_le hv, hroom, fun hc => hnew (List.mem_append_left _ hc), rfl⟩⟩

theorem Legal.exists_sndDeqBody {s : State} (h : Legal s) (hr : sndReady s = true) : ∃ t, sndDeqBody s = .ok t := by
  obtain ⟨v, q, hq⟩ := List.exists_cons_of_length_pos (sndReady_iff.1 hr).2.2
  cases ht : tryGranted s with
  | true => exact ⟨_, sndDeqBody_eq_ok.2 ⟨v, q, hq, .inl ⟨ht, rfl⟩⟩⟩
  | false =>
    obtain ⟨-, hroom, hnew⟩ := h.slots.release (v := v) (by simp [hq])
    exact ⟨_, sndDeqBody_eq_ok.2 ⟨v, q, hq, .inr ⟨ht, hroom, hnew, rfl⟩⟩⟩

theorem Legal.exists_txSenderByte {s : State} (h : Legal s) (ho : s.owner = .sender) :
    ∃ t, txSenderByte s = .ok t := by
  have hmem : s.sndSlot ∈ s.filledQ ++ inFlight s := by simp [inFlight, h.sender.owns.1 ho]
  obtain ⟨hv, hroom, hnew⟩ := h.slots.release hmem
  have hidx : s.sndIdx.toNat < frameSize := Nat.lt_succ_of_le h.sender.idx
  obtain ⟨b, hb⟩ := h.stamped.exists_read hmem hidx
  have haddr : slotAddr s.sndSlot s.sndIdx.toNat < s.cfg.nSlots * frameSize := by
    have := slotAddr_le hv
    simp only [slotAddr, frameSize] at *; omega
  by_cases h14 : s.sndIdx = 14
  · exact ⟨_, txSenderByte_eq_ok.2 ⟨b, haddr, hb, .inr ⟨h14, hroom, hnew, rfl⟩⟩⟩
  · exact ⟨_, txSenderByte_eq_ok.2 ⟨b, haddr, hb, .inl ⟨h14, rfl⟩⟩⟩

theorem Legal.exists_rxFrameByte {s : State} (h : Legal s) (b : Byte) : ∃ t, rxFrameByte b s = .ok t := by
  have hcnt : s.rxCnt.toNat < frameSize := Nat.lt_succ_of_le h.sync.rxCnt
  by_cases hmid : s.rxCnt.toNat < bodySize
  · exact ⟨_, rxFrameByte_eq_ok.2 ⟨hcnt, .inl ⟨hmid, rfl⟩⟩⟩
  · obtain ⟨f, hf⟩ := h.rxWritten.exists_readBytes (by simp only [bodySize, frameSize] at *; omega) b
    cases hv : verify s.cfg.checksumAlg f with
    | true => exact ⟨_, rxFrameByte_eq_ok.2 ⟨hcnt, .inr ⟨hmid, f, hf, .inl ⟨hv, rfl⟩⟩⟩⟩
    | false => exact ⟨_, rxFrameByte_eq_ok.2 ⟨hcnt, .inr ⟨hmid, f, hf, .inr ⟨hv, rfl⟩⟩⟩⟩

theorem finish_completes {e : Except Fault State} (h : ∃ t, e = .ok t) : ∃ t, finish e = .next t :=
  h.imp fun _ => finish_eq_next.2

/-- From a legal state every operation answers a next state: where its guard is false it is held, and where it is true no
FIFO primitive and no byte read of its pseudocode faults (R65, R201). -/
theorem Legal.exec_completes {s : State} (h : Legal s) (i : Instr) : ∃ t, exec i s = .next t := by
  cases hen : enabled i s with
  | false => exact ⟨s, heldOperationChangesNothing i s hen⟩
  | true =>
    cases i with
    | init | start | regRead a => exact ⟨_, rfl⟩
    | putFrame d =>
      rw [exec, execPutFrame, if_pos (by exact hen)]
      exact finish_completes (h.exists_putFrameBody hen d)
    | rxByte b =>
      rw [exec, execRxByte, if_pos (by exact hen)]
      split
      · exact ⟨_, rfl⟩
      · split
        · exact finish_completes (h.exists_rxFrameByte b)
        · exact ⟨_, rfl⟩
    | txByte =>
      rw [exec, execTxByte, if_pos (by exact hen)]
      split
      · exact finish_completes (h.exists_txSenderByte ‹_›)
      · exact ⟨_, rfl⟩
    | timeout => exact ⟨_, if_pos hen⟩
    | sndDeq =>
      rw [exec, execSndDeq, if_pos (by exact hen)]
      exact finish_completes (h.exists_sndDeqBody hen)
    | syncAcq => exact ⟨_, if_pos hen⟩

end Sys2Proof.Machine
end

section
/-! SUPPORT. Every operation keeps each part of `Legal`: one lemma a part, by the cases of `Effect`. -/

namespace Sys2Proof.Machine

/-! ## The lifecycle -/

/-- Outside ACTIVE an operation moves LSTATE, records a register value or does nothing (R164, R170 to R172). -/
theorem Effect.of_not_active {i : Instr} {s t : State} (e : Effect i s t) (hl : s.lstate ≠ .active) :
    t = s ∨ (∃ l, t = s.setLstate l) ∨ ∃ v, t = s.report v := by
  cases e with
  | held | initIgnored | startIgnored | rxDiscard => exact .inl rfl
  | initTakes | startTakes => exact .inr (.inl ⟨_, rfl⟩)
  | read => exact .inr (.inr ⟨_, rfl⟩)
  | rxMid h | rxGood h | rxBad h => exact absurd h hl
  | put h => exact absurd (putReady_iff.1 h).1 hl
  | rxPass h | timeoutPass h => exact absurd (passPossible_iff.1 h).1 hl
  | deqGranted h | deqLost h => exact absurd (sndReady_iff.1 h).1 hl
  | txMid h | txLast h | txSync h => exact absurd (txValid_iff.1 h).1 hl
  | acquired h => exact absurd (syncReady_iff.1 h).1 hl

/-- No operation leaves ACTIVE (R21). -/
theorem Effect.stays_active {i : Instr} {s t : State} (e : Effect i s t) (hl : s.lstate = .active) :
    t.lstate = .active := by
  cases e with
  | initTakes h => rw [hl] at h; cases h
  | startTakes => rfl
  | _ => simpa

theorem Effect.keeps_dormant {i : Instr} {s t : State} (h : DormantUntilActive s) (e : Effect i s t) :
    DormantUntilActive t := by
  intro ht
  have hl : s.lstate ≠ .active := fun hl => ht (e.stays_active hl)
  obtain rfl | ⟨l, rfl⟩ | ⟨v, rfl⟩ := e.of_not_active hl
  · exact h hl
  · exact congrArg (State.setLstate · l) (h hl)
  · exact congrArg (State.report · v) (h hl)

/-! ## Slots -/

/-- Each move of a slot index permutes the places of the indices (R65, R66). -/
theorem Effect.keeps_conserved {i : Instr} {s t : State} (h : Conserved s) (e : Effect i s t) : Conserved t := by
  cases e with
  | @put _ v q _ _ hf =>
    refine h.perm ?_ (by simp)
    have hmid : (q ++ s.filledQ ++ v :: inFlight s).Perm (v :: (q ++ s.filledQ ++ inFlight s)) := List.perm_middle
    simpa [allSlots, hf] using hmid
  | deqGranted hr hf =>
    refine h.perm ?_ (by simp)
    have hidle := (sndReady_iff.1 hr).2.1
    simpa [allSlots, inFlight, hf, hidle] using (List.perm_append_singleton _ _).append_left _
  | deqLost hr hf =>
    refine h.perm ?_ (by simp)
    rw [allSlots, inFlight_congr (s := s) (by simp) (by simp), allSlots]
    simp [hf]
  | txLast _ _ hs =>
    refine h.perm ?_ (by simp)
    simpa [allSlots, inFlight, hs] using (List.perm_append_singleton _ _).symm.append_left _
  | _ => apply h.congr <;> simp

/-- A stamped body of 14 bytes verifies (R93). -/
theorem verify_stamp (alg : ChecksumAlg) {body : List Byte} (hl : body.length = 14) :
    verify alg (stamp alg body) = true := by
  simp [verify, stamp, bodySize, ← hl]

/-- The slot a PUT_FRAME fills holds its stamped body (R91, R140). -/
theorem slotFrame_putResult_self (s : State) (d : PutData) (v : SlotIx) (q : List SlotIx) :
    slotFrame (putResult s d v q) v = some (stamp s.cfg.checksumAlg (bodyBytes d)) := by
  refine Memory.readBytes_eq_some.2 ⟨stamp_length _ d, fun i hi => ?_⟩
  have hin : slotAddr v 0 ≤ slotAddr v 0 + i ∧
      slotAddr v 0 + i < slotAddr v 0 + (stamp s.cfg.checksumAlg (bodyBytes d)).length := by
    rw [stamp_length]; exact ⟨Nat.le_add_right .., Nat.add_lt_add_left hi _⟩
  rw [putResult_slots, Memory.read_writeBytes, if_pos hin, Nat.add_sub_cancel_left]

/-- A PUT_FRAME leaves the bytes of every other slot (R64). -/
theorem slotFrame_putResult_of_ne (s : State) (d : PutData) {v w : SlotIx} (q : List SlotIx) (hw : w ≠ v) :
    slotFrame (putResult s d v q) w = slotFrame s w := by
  refine Memory.readBytes_congr fun i hi => ?_
  have hout : ¬(slotAddr v 0 ≤ slotAddr w 0 + i ∧
      slotAddr w 0 + i < slotAddr v 0 + (stamp s.cfg.checksumAlg (bodyBytes d)).length) := by
    rw [stamp_length]
    have : w.toNat ≠ v.toNat := fun hc => hw (BitVec.eq_of_toNat_eq hc)
    simp only [slotAddr, frameSize] at *; omega
  rw [putResult_slots, Memory.read_writeBytes, if_neg hout]

/-- Slots stay stamped where the store is kept and no slot is newly queued. -/
theorem SlotsStamped.mono {s t : State} (h : SlotsStamped s) (hs : t.slots = s.slots) (hc : t.cfg = s.cfg)
    (hq : t.filledQ ++ inFlight t ⊆ s.filledQ ++ inFlight s) : SlotsStamped t := by
  intro v hv
  rw [slotFrame, hs, hc]
  exact h v (hq hv)

theorem SlotsStamped.congr {s t : State} (h : SlotsStamped s) (h₁ : t.slots = s.slots) (h₂ : t.cfg = s.cfg)
    (h₃ : t.filledQ = s.filledQ) (h₄ : t.sndState = s.sndState) (h₅ : t.sndSlot = s.sndSlot) : SlotsStamped t :=
  h.mono h₁ h₂ (by rw [h₃, inFlight_congr h₄ h₅]; exact List.Subset.refl _)

theorem Effect.keeps_stamped {i : Instr} {s t : State} (h : SlotsStamped s) (e : Effect i s t) :
    SlotsStamped t := by
  cases e with
  | @put d v q _ _ hf =>
    intro w hw
    by_cases hwv : w = v
    · subst hwv
      exact ⟨_, slotFrame_putResult_self s d w q, verify_stamp _ (bodyBytes_length d)⟩
    · rw [slotFrame_putResult_of_ne s d q hwv, putResult_cfg]
      refine h w ?_
      simpa [hwv] using hw
  | deqGranted hr hf => apply h.mono <;> simp [inFlight, hf]
  | @deqLost v q _ hr hf =>
    refine h.mono (by simp) (by simp) ?_
    rw [inFlight_congr (s := s) (by simp) (by simp), hf]
    exact List.subset_cons_self ..
  | txLast _ _ hs => apply h.mono <;> simp [inFlight, hs]
  | _ => apply h.congr <;> simp

/-! ## Control state -/

theorem SenderLegal.congr {s t : State} (h : SenderLegal s) (h₁ : t.owner = .sender ↔ s.owner = .sender)
    (h₂ : t.sndState = s.sndState) (h₃ : t.sndSlot = s.sndSlot) (h₄ : t.sndIdx = s.sndIdx) : SenderLegal t :=
  ⟨by rw [h₁, h₂]; exact h.owns, by rw [h₂, h₃, h₄]; exact h.idle, by rw [h₄]; exact h.idx⟩

/-- A pass of a resync does not give the sender the channel (R28, R122). -/
theorem resyncPass_owner_ne_sender {s : State} (h : s.owner ≠ .sender) (b : Option Byte) :
    (resyncPass b s).owner ≠ .sender := by
  obtain ⟨-, he⟩ | ⟨-, -, he⟩ | ⟨-, -, he⟩ := resyncPass_cases b s <;> simp [he, h]

theorem SenderLegal.pass {s : State} (h : SenderLegal s) (hs : SyncLegal s) (hp : passPossible s = true)
    (b : Option Byte) : SenderLegal (resyncPass b s) := by
  have ho : s.owner ≠ .sender := by rw [hs.owns.2 (passPossible_iff.1 hp).2.1]; simp
  exact h.congr (iff_of_false (resyncPass_owner_ne_sender ho b) ho) (resyncPass_sndState ..) (resyncPass_sndSlot ..)
    (resyncPass_sndIdx ..)

theorem Effect.keeps_sender {i : Instr} {s t : State} (hs : SyncLegal s) (h : SenderLegal s) (e : Effect i s t) :
    SenderLegal t := by
  cases e with
  | deqGranted => constructor <;> simp
  | txMid _ ho hst _ _ hne =>
    have hidx : s.sndIdx.toNat ≠ 14 := fun hc => hne (BitVec.eq_of_toNat_eq hc)
    have hle := h.idx
    constructor <;> simp [ho, hst, BitVec.toNat_add]
    omega
  | txLast => constructor <;> simp
  | acquired hr =>
    have ho := (syncReady_iff.1 hr).2.2
    apply h.congr <;> simp [ho]
  | rxPass hp | timeoutPass hp => exact h.pass hs hp _
  | _ => apply h.congr <;> simp

theorem SyncLegal.congr {s t : State} (h : SyncLegal s) (h₁ : t.owner = .sync ↔ s.owner = .sync)
    (h₂ : t.syncState = s.syncState) (h₃ : t.syncTxRem = s.syncTxRem) (h₄ : t.hitCnt = s.hitCnt)
    (h₅ : t.tmoCnt = s.tmoCnt) (h₆ : t.rxCnt = s.rxCnt) (h₇ : t.cfg = s.cfg) : SyncLegal t :=
  ⟨by rw [h₁, h₂]; exact h.owns, by rw [h₂, h₃, h₄, h₅]; exact h.outside, by rw [h₄]; exact h.hits,
    by rw [h₅, h₇]; exact h.ticks, by rw [h₆]; exact h.rxCnt, by rw [h₂, h₆]; exact h.rxCntZero⟩

/-- TMO_CNT after the counting step has not passed the threshold (R33, R123). -/
theorem countPass_tmoCnt_le {s : State} (h : s.tmoCnt.toNat < s.cfg.syncTimeoutThrs) (b : Option Byte) :
    (countPass b s).tmoCnt.toNat ≤ s.cfg.syncTimeoutThrs := by
  rw [countPass_tmoCnt]
  split
  · rw [BitVec.toNat_add]; exact (Nat.mod_le _ _).trans h
  · exact h.le

/-- A pass keeps the sync FSM legal: 15 hits end it, the threshold clears TMO_CNT (R122 to R125). -/
theorem SyncLegal.pass {s : State} (h : SyncLegal s) (hp : passPossible s = true) (b : Option Byte) :
    SyncLegal (resyncPass b s) := by
  obtain ⟨-, hst, hrem⟩ := passPossible_iff.1 hp
  have hthrs : 0 < s.cfg.syncTimeoutThrs := Nat.zero_lt_of_lt h.ticks
  have htmo := countPass_tmoCnt_le h.ticks b
  have hhit := (countPass b s).hitCnt.isLt
  have hown := h.owns.2 hst
  have hcnt := h.rxCntZero (by simp [hst])
  obtain ⟨-, he⟩ | ⟨h15, -, he⟩ | ⟨h15, hne, he⟩ := resyncPass_cases b s <;> rw [he]
  · constructor <;> simp [hrem, hthrs]
  · constructor <;> simp [hst, hown, hcnt, hthrs]
    omega
  · exact ⟨by simp [hown, hst], by simp [hst], by omega, by rw [countPass_cfg]; omega, by simp [hcnt], by simp [hcnt]⟩

theorem Effect.keeps_sync {i : Instr} {s t : State} (h : SyncLegal s) (e : Effect i s t) : SyncLegal t := by
  have hthrs : 0 < s.cfg.syncTimeoutThrs := Nat.zero_lt_of_lt h.ticks
  cases e with
  | rxMid _ hst hcnt =>
    obtain ⟨howns, hout, hhits, hticks, -, -⟩ := h
    constructor <;> simp_all [BitVec.toNat_add, bodySize]
    omega
  | rxGood _ hst | rxBad _ hst =>
    obtain ⟨howns, hout, hhits, hticks, -, -⟩ := h
    constructor <;> simp_all
  | rxPass hp | timeoutPass hp => exact h.pass hp _
  | deqGranted _ _ hg =>
    have ho := (tryGranted_iff.1 hg).1
    apply h.congr <;> simp [ho]
  | txLast _ ho => apply h.congr <;> simp [ho]
  | txSync _ ho =>
    obtain ⟨howns, hout, hhits, hticks, hcnt, hzero⟩ := h
    constructor <;> simp_all
  | acquired hr =>
    have hst := (syncReady_iff.1 hr).2.1
    obtain ⟨-, -, -, -, hcnt, hzero⟩ := h
    constructor <;> simp_all
  | _ => apply h.congr <;> simp

/-! ## Stores and timer -/

theorem StoresLegal.congr {s t : State} (h : StoresLegal s) (h₁ : t.slots = s.slots) (h₂ : t.rxBuf = s.rxBuf)
    (h₃ : t.cfg = s.cfg) : StoresLegal t :=
  ⟨by rw [h₁]; exact h.slotsWf, by rw [h₂]; exact h.rxBufWf, by rw [h₁, h₃]; exact h.slotsBound,
    by rw [h₂]; exact h.rxBufBound⟩

/-- A byte stored in RX_BUF below its end (R29, R161). -/
theorem StoresLegal.rx {s : State} (h : StoresLegal s) (hcnt : s.rxCnt.toNat < frameSize) (b : Byte) :
    StoresLegal (s.rxPut b) := by
  refine ⟨h.slotsWf, Memory.wf_write h.rxBufWf _ _, h.slotsBound, fun x hx => ?_⟩
  obtain rfl | hx := Memory.mem_write hx
  · exact hcnt
  · exact h.rxBufBound x hx

/-- A frame stored in a slot in range (R50, R140). -/
theorem StoresLegal.put {s : State} (h : StoresLegal s) {v : SlotIx}
    (haddr : slotAddr v 15 ≤ s.cfg.nSlots * frameSize) (d : PutData) (q : List SlotIx) :
    StoresLegal (putResult s d v q) := by
  refine ⟨by simpa using Memory.wf_writeBytes h.slotsWf _ _, by simpa using h.rxBufWf, fun x hx => ?_,
    by simpa using h.rxBufBound⟩
  rw [putResult_slots] at hx
  rw [putResult_cfg]
  obtain ⟨-, hx⟩ | hx := Memory.mem_writeBytes hx
  · rw [stamp_length] at hx
    exact Nat.lt_of_lt_of_le hx haddr
  · exact h.slotsBound x hx

theorem Effect.keeps_stores {i : Instr} {s t : State} (h : StoresLegal s) (e : Effect i s t) : StoresLegal t := by
  cases e with
  | put _ _ haddr => exact h.put haddr _ _
  | @rxMid b _ _ _ hcnt => apply (h.rx (hcnt.trans (by decide)) b).congr <;> simp
  | @rxGood b _ _ _ _ hcnt | @rxBad b _ _ _ _ hcnt =>
    apply (h.rx (by rw [hcnt]; decide) b).congr <;> simp
  | _ => apply h.congr <;> simp

theorem RxWritten.of_rxCnt_eq_zero {s : State} (h : s.rxCnt = 0) : RxWritten s := by
  intro i hi; simp [h] at hi

theorem RxWritten.congr {s t : State} (h : RxWritten s) (h₁ : t.rxCnt = s.rxCnt) (h₂ : t.rxBuf = s.rxBuf) :
    RxWritten t := by
  rw [RxWritten, h₁, h₂]; exact h

/-- RX_CNT after a pass is 0: it was 0 outside SYNCED, and a terminated resync clears it (R124). -/
theorem resyncPass_rxCnt {s : State} (h : s.rxCnt = 0) (b : Option Byte) : (resyncPass b s).rxCnt = 0 := by
  obtain ⟨-, he⟩ | ⟨-, -, he⟩ | ⟨-, -, he⟩ := resyncPass_cases b s <;> simp [he, h]

theorem Effect.keeps_rxWritten {i : Instr} {s t : State} (hs : SyncLegal s) (h : RxWritten s) (e : Effect i s t) :
    RxWritten t := by
  cases e with
  | @rxMid b _ _ _ hcnt =>
    intro j hj
    have hj' : j < s.rxCnt.toNat + 1 := by
      have : (s.rxCnt + 1).toNat ≤ s.rxCnt.toNat + 1 := by rw [BitVec.toNat_add]; exact Nat.mod_le _ _
      simp at hj; omega
    simp only [State.rxAdvance_rxBuf, State.rxPut_rxBuf, Memory.read_write]
    split
    · rfl
    · exact h j (by omega)
  | rxGood | rxBad => exact .of_rxCnt_eq_zero (by simp)
  | rxPass hp | timeoutPass hp =>
    have hcnt := hs.rxCntZero (by simp [(passPossible_iff.1 hp).2.1])
    exact .of_rxCnt_eq_zero (resyncPass_rxCnt hcnt _)
  | _ => apply h.congr <;> simp

theorem Effect.keeps_byteTimer {i : Instr} {s t : State} (e : Effect i s t) : t.byteTimer = s.byteTimer := by
  cases e <;> simp

end Sys2Proof.Machine
end

section
/-! SUPPORT. The legal states are kept: by every operation, by a new schedule, by the timer's update and by a reset. Then the
statements on faults and on runs from reset. -/

namespace Sys2Proof.Machine

/-- Every operation keeps the legal states. -/
theorem Legal.of_exec {i : Instr} {s t : State} (h : Legal s) (he : exec i s = .next t) : Legal t := by
  have e := exec_effect he
  have hcfg := exec_cfg he
  exact
    { cfg := by rw [hcfg]; exact h.cfg
      slots := e.keeps_conserved h.slots
      stamped := e.keeps_stamped h.stamped
      sender := e.keeps_sender h.sync h.sender
      sync := e.keeps_sync h.sync
      stores := e.keeps_stores h.stores
      rxWritten := e.keeps_rxWritten h.sync h.rxWritten
      dormant := e.keeps_dormant h.dormant
      timer := by rw [TimerLegal, e.keeps_byteTimer, hcfg]; exact h.timer }

/-- From a legal state every operation answers a legal state. -/
theorem Legal.exec_next {s : State} (h : Legal s) (i : Instr) : ∃ t, exec i s = .next t ∧ Legal t := by
  obtain ⟨t, ht⟩ := h.exec_completes i
  exact ⟨t, ht, h.of_exec ht⟩

/-! ## The schedule, the byte timer and reset -/

/-- `Legal` says nothing of the schedule (log 4). -/
theorem Legal.setInputs {s : State} (h : Legal s) (l : List Input) : Legal (s.setInputs l) where
  cfg := h.cfg
  slots := by apply h.slots.congr <;> simp
  stamped := by apply h.stamped.congr <;> simp
  sender := by apply h.sender.congr <;> simp
  sync := by apply h.sync.congr <;> simp
  stores := by apply h.stores.congr <;> simp
  rxWritten := by apply h.rxWritten.congr <;> simp
  dormant := fun hl => congrArg (State.setInputs · l) (h.dormant hl)
  timer := h.timer

/-- The timer never reaches BYTE_TIMEOUT_CYCLES: at that count it has expired (R127). -/
theorem nextTimer_lt {s : State} (hw : s.cfg.wf = true) (c : ClockCycle) :
    nextTimer c s < s.cfg.byteTimeoutCycles := by
  obtain ⟨-, -, -, -, hpos⟩ := Config.wf_iff.1 hw
  unfold nextTimer
  split
  · rename_i hadv
    simp only [timerExpires, Bool.and_eq_true, Bool.not_eq_true', Bool.and_eq_false_iff, decide_eq_false_iff_not] at hadv
    obtain ⟨⟨hpass, hrx⟩, hexp⟩ := hadv
    simp [hpass, hrx] at hexp
    omega
  · exact hpos

/-- The timer rests at 0 outside ACTIVE, where no pass is possible (R122, log 7). -/
theorem nextTimer_of_not_active {s : State} (hl : s.lstate ≠ .active) (c : ClockCycle) : nextTimer c s = 0 := by
  simp [nextTimer, passPossible, hl]

theorem Legal.setTimer {s : State} (h : Legal s) (c : ClockCycle) : Legal (s.setTimer (nextTimer c s)) where
  cfg := h.cfg
  slots := by apply h.slots.congr <;> simp
  stamped := by apply h.stamped.congr <;> simp
  sender := by apply h.sender.congr <;> simp
  sync := by apply h.sync.congr <;> simp
  stores := by apply h.stores.congr <;> simp
  rxWritten := by apply h.rxWritten.congr <;> simp
  dormant := fun hl => by
    rw [State.setTimer_lstate] at hl
    rw [nextTimer_of_not_active hl]
    exact congrArg (State.setTimer · 0) (h.dormant hl)
  timer := nextTimer_lt h.cfg c

/-- The free FIFO at reset holds every slot index below N_SLOTS once (R23). -/
theorem initialFreeQ_nodup {n : Nat} (hn : n ≤ 255) : (initialFreeQ n).Nodup := by
  refine List.nodup_range.map_on fun j hj k hk heq => ?_
  rw [List.mem_range] at hj hk
  have := congrArg BitVec.toNat heq
  simp only [BitVec.toNat_ofNat] at this
  omega

theorem mem_initialFreeQ {n : Nat} (hn : n ≤ 255) {v : SlotIx} : v ∈ initialFreeQ n ↔ v.toNat < n := by
  simp only [initialFreeQ, List.mem_map, List.mem_range]
  constructor
  · rintro ⟨k, hk, rfl⟩
    simp only [BitVec.toNat_ofNat]
    omega
  · exact fun hv => ⟨v.toNat, hv, by simp⟩

/-- Every slot is free at reset (R65, R200). -/
theorem Conserved.resetWith {c : Config} (hw : c.wf = true) : Conserved (State.resetWith c) := by
  obtain ⟨-, hn, -⟩ := Config.wf_iff.1 hw
  have hall : allSlots (State.resetWith c) = initialFreeQ c.nSlots := by simp [allSlots, inFlight, State.resetWith]
  refine ⟨by simp [State.resetWith, initialFreeQ], fun k hk => ?_, fun v hv => ?_⟩
  · rw [hall]
    refine List.count_eq_one_of_mem (initialFreeQ_nodup hn) ?_
    exact List.mem_map_of_mem (List.mem_range.2 hk)
  · rw [hall] at hv
    exact (mem_initialFreeQ hn).1 hv

/-- The reset state of a legal configuration is legal (R20, R200). -/
theorem Legal.resetWith {c : Config} (hw : c.wf = true) : Legal (State.resetWith c) := by
  obtain ⟨-, -, hthrs, -, htimer⟩ := Config.wf_iff.1 hw
  exact
    { cfg := hw
      slots := .resetWith hw
      stamped := by intro v hv; simp [State.resetWith, inFlight] at hv
      sender := by constructor <;> simp [State.resetWith]
      sync := by constructor <;> simp [State.resetWith]; exact hthrs
      stores := by constructor <;> simp [State.resetWith]
      rxWritten := .of_rxCnt_eq_zero rfl
      dormant := fun _ => rfl
      timer := htimer }

theorem Legal.atResetEdge {s : State} (h : Legal s) : Legal (resetEdge s) := (Legal.resetWith h.cfg).setInputs _

/-! ## Steps -/

/-- Every step keeps the legal states. -/
theorem Legal.of_step {s t : State} (h : Legal s) (hst : step s = .next t) : Legal t :=
  step_keeps (P := Legal) (fun _ l h => h.setInputs l) (fun c _ h => h.setTimer c) (fun _ h => h.atResetEdge)
    (fun _ _ _ h he => h.of_exec he) h hst

/-- A clock edge from a legal state answers a next state: its operations complete one after another (R205). -/
theorem Legal.clockEdge_completes {s : State} (h : Legal s) (c : ClockCycle) : ∃ t, clockEdge c s = .next t := by
  unfold clockEdge
  split
  · obtain ⟨t, ht, -⟩ := execAll_completes (P := Legal) (fun i _ h => h.exec_next i) (cycleOps c s) (h.setTimer c)
    exact ⟨t, ht⟩
  · exact ⟨_, rfl⟩

/-- A step from a legal state idles, completes a clock edge or an operation, or refuses a reserved label (R74). -/
theorem Legal.step_ne_fault {s : State} (h : Legal s) (f : Fault) : step s ≠ .fault f := by
  intro hf
  cases hi : s.inputs with
  | nil => rw [step_of_inputs_nil h.cfg hi] at hf; cases hf
  | cons x rest =>
    rw [step_of_inputs_cons h.cfg hi] at hf
    have hs := h.setInputs rest
    cases x with
    | cycle c =>
      obtain ⟨t, ht⟩ := hs.clockEdge_completes c
      rw [runInput, ht] at hf; cases hf
    | label l =>
      cases hd : decode l with
      | error e => rw [runInput_label_error hd] at hf; cases hf
      | ok i =>
        obtain ⟨t, ht⟩ := hs.exec_completes i
        rw [runInput_label_ok hd, ht] at hf; cases hf

/-- A state reached from reset under any schedule is legal. -/
theorem Reachable.legal {c : Config} {s : State} (hw : c.wf = true) (h : Reachable c s) : Legal s := by
  induction h with
  | reset l => exact (Legal.resetWith hw).setInputs l
  | step _ hst ih => exact ih.of_step hst

/-- Settles O53, from the completion of every operation and the outcomes of a step. -/
theorem noModelFaultFromLegalState : Obligations.NoModelFaultFromLegalState :=
  fun _ h => ⟨h.exec_completes, h.step_ne_fault⟩

/-- Settles O54: reachable states are legal, and no step from a legal state faults. -/
theorem reachableStatesAreSafe : Obligations.ReachableStatesAreSafe := by
  intro c s hw hr
  have hs := hr.legal hw
  exact ⟨hs, hs.step_ne_fault⟩

end Sys2Proof.Machine
end

section
/-! SUPPORT. What a resync pass does to the statistics, to RX_CNT, to OWNER and to SYNC_STATE (R122 to R125). -/

namespace Sys2Proof.Machine

section
variable (b : Option Byte) (s : State)

@[simp] theorem countPass_stats_sent : (countPass b s).stats.sent = s.stats.sent := by
  rw [countPass_stats]; split <;> rfl
@[simp] theorem countPass_stats_syncFramesSent :
    (countPass b s).stats.syncFramesSent = s.stats.syncFramesSent := by
  rw [countPass_stats]; split <;> rfl

/-- A pass writes two of the statistics: a tick advances one, a resend the other (R123, R125). -/
theorem resyncPass_stats : ∃ frames, (resyncPass b s).stats =
    { s.stats with
      syncTmoTicks := if isTick s.cfg b then s.stats.syncTmoTicks + 1 else s.stats.syncTmoTicks
      syncFramesSent := frames } ∧
    (frames = s.stats.syncFramesSent ∧ (resyncPass b s).syncTxRem = s.syncTxRem ∨
      frames = s.stats.syncFramesSent + 1 ∧ (resyncPass b s).syncTxRem = 15) := by
  obtain ⟨-, he⟩ | ⟨-, -, he⟩ | ⟨-, -, he⟩ := resyncPass_cases b s <;> rw [he]
  · refine ⟨s.stats.syncFramesSent, ?_, .inl ⟨rfl, by simp⟩⟩
    simp only [State.terminate_stats, countPass_stats]; split <;> rfl
  · refine ⟨s.stats.syncFramesSent + 1, ?_, .inr ⟨rfl, by simp⟩⟩
    simp only [State.countSyncFrame_stats, State.resendSync_stats, countPass_stats, inc32]; split <;> rfl
  · refine ⟨s.stats.syncFramesSent, ?_, .inl ⟨rfl, by simp⟩⟩
    rw [countPass_stats]; split <;> rfl

@[simp] theorem resyncPass_stats_sent : (resyncPass b s).stats.sent = s.stats.sent := by
  obtain ⟨_, h, -⟩ := resyncPass_stats b s; rw [h]
@[simp] theorem resyncPass_stats_received : (resyncPass b s).stats.received = s.stats.received := by
  obtain ⟨_, h, -⟩ := resyncPass_stats b s; rw [h]
@[simp] theorem resyncPass_stats_lost : (resyncPass b s).stats.lost = s.stats.lost := by
  obtain ⟨_, h, -⟩ := resyncPass_stats b s; rw [h]
@[simp] theorem resyncPass_stats_syncTriggered :
    (resyncPass b s).stats.syncTriggered = s.stats.syncTriggered := by
  obtain ⟨_, h, -⟩ := resyncPass_stats b s; rw [h]
theorem resyncPass_stats_syncTmoTicks : (resyncPass b s).stats.syncTmoTicks =
    if isTick s.cfg b then s.stats.syncTmoTicks + 1 else s.stats.syncTmoTicks := by
  obtain ⟨_, h, -⟩ := resyncPass_stats b s; rw [h]

/-- STAT_SYNC_FRAMES_SENT advances on exactly the passes that queue a SyncFrame (R125). -/
theorem resyncPass_syncFramesSent :
    (resyncPass b s).stats.syncFramesSent = s.stats.syncFramesSent ∧ (resyncPass b s).syncTxRem = s.syncTxRem ∨
    (resyncPass b s).stats.syncFramesSent = s.stats.syncFramesSent + 1 ∧ (resyncPass b s).syncTxRem = 15 := by
  obtain ⟨_, h, hframes⟩ := resyncPass_stats b s
  rw [h]
  exact hframes

/-- A pass leaves RX_CNT, except that the end of a resync clears it (R124). -/
theorem resyncPass_rxCnt_cases : (resyncPass b s).rxCnt = s.rxCnt ∨ (resyncPass b s).rxCnt = 0 := by
  obtain ⟨-, he⟩ | ⟨-, -, he⟩ | ⟨-, -, he⟩ := resyncPass_cases b s <;> simp [he]

end

/-- Only a hit with HIT_CNT at 14 reaches SYNC_HITS (R123). -/
theorem SyncLegal.fifteenth_hit {s : State} (h : SyncLegal s) {b : Option Byte}
    (h15 : (countPass b s).hitCnt.toNat = 15) : b = some 0xFF ∧ s.hitCnt = 14 := by
  have hle := h.hits
  rw [countPass_hitCnt] at h15
  split at h15
  · exact ⟨‹_›, by bv_omega⟩
  · split at h15
    · cases h15
    · omega

/-- A pass leaves OWNER and SYNC_STATE, except that the fifteenth hit ends the resync (R122, R124). -/
theorem SyncLegal.pass_cases {s : State} (h : SyncLegal s) (b : Option Byte) :
    (resyncPass b s).owner = s.owner ∧ (resyncPass b s).syncState = s.syncState ∨
    (b = some 0xFF ∧ s.hitCnt = 14 ∧ (resyncPass b s).owner = .none ∧ (resyncPass b s).syncState = .synced) := by
  obtain ⟨h15, he⟩ | ⟨-, -, he⟩ | ⟨-, -, he⟩ := resyncPass_cases b s <;> rw [he]
  · obtain ⟨hb, hhit⟩ := h.fifteenth_hit h15
    exact .inr ⟨hb, hhit, by simp, by simp⟩
  · exact .inl ⟨by simp, by simp⟩
  · exact .inl ⟨by simp, by simp⟩

end Sys2Proof.Machine
end

section
/-! SUPPORT. The transmit stream (R62, R105, R131): what one operation adds to it, and that whole items stay whole. -/

namespace Sys2Proof.Machine

/-! ## The item under way -/

theorem begun_of_none {s : State} (h : s.owner = .none) : begun s = [] := by simp [begun, h]

theorem begun_of_sender {s : State} (h : s.owner = .sender) :
    begun s = ((slotFrame s s.sndSlot).getD []).take s.sndIdx.toNat := by simp [begun, h]

theorem begun_of_sync {s : State} (h : s.owner = .sync) :
    begun s = List.replicate (frameSize - s.syncTxRem.toNat) 0xFF := by simp [begun, h]

theorem begun_congr {s t : State} (h₁ : t.owner = s.owner) (h₂ : slotFrame t s.sndSlot = slotFrame s s.sndSlot)
    (h₃ : t.sndSlot = s.sndSlot) (h₄ : t.sndIdx = s.sndIdx) (h₅ : t.syncTxRem = s.syncTxRem) : begun t = begun s := by
  simp only [begun, h₁, h₂, h₃, h₄, h₅]

/-- A frame up to SND_IDX and the byte at SND_IDX are the frame up to the next index (R104). -/
theorem begun_concat_of_sender {s : State} {f : List Byte} {b : Byte} (ho : s.owner = .sender)
    (hf : slotFrame s s.sndSlot = some f) (hidx : s.sndIdx.toNat < frameSize)
    (hb : s.slots.read (slotAddr s.sndSlot s.sndIdx.toNat) = some b) :
    begun s ++ [b] = f.take (s.sndIdx.toNat + 1) := by
  have hread : s.slots.read (slotAddr s.sndSlot s.sndIdx.toNat) = f[s.sndIdx.toNat]? :=
    (Memory.readBytes_eq_some.1 hf).2 _ hidx
  simp [begun_of_sender ho, hf, List.take_add_one, ← hread, hb]

/-- The slot a transmitting sender holds is a whole frame (R64, R93). -/
theorem Legal.sender_frame {s : State} (h : Legal s) (ho : s.owner = .sender) :
    ∃ f, slotFrame s s.sndSlot = some f ∧ (TxItem.frame f).whole s.cfg.checksumAlg := by
  have hmem : s.sndSlot ∈ s.filledQ ++ inFlight s := by simp [inFlight, h.sender.owns.1 ho]
  obtain ⟨f, hf, hv⟩ := h.stamped _ hmem
  exact ⟨f, hf, (Memory.readBytes_eq_some.1 hf).1, hv⟩

/-! ## One operation's part of the stream -/

/-- An operation from `s` to `t` emits the bytes `bs`, and with them the stream holds the items `new` more and what the
owner has begun in `t`; the two statistics advance with the items they count. -/
structure StreamStep (s t : State) (bs : List Byte) (new : List TxItem) : Prop where
  cfg : t.cfg = s.cfg
  out : t.txOut = s.txOut ++ bs
  whole : ∀ x ∈ new, x.whole s.cfg.checksumAlg
  bytes : begun s ++ bs = (new.map TxItem.bytes).flatten ++ begun t
  sent : t.stats.sent = s.stats.sent + BitVec.ofNat 32 (new.countP TxItem.isFrame)
  syncSent : t.stats.syncFramesSent + BitVec.ofNat 32 (if s.owner = .sync then 1 else 0) =
    s.stats.syncFramesSent + BitVec.ofNat 32 (new.countP (fun x => !x.isFrame) + if t.owner = .sync then 1 else 0)

theorem StreamStep.keeps_wholeFrames {s t : State} {bs : List Byte} {new : List TxItem} (h : StreamStep s t bs new)
    (hs : WholeFrames s) : WholeFrames t := by
  obtain ⟨items, hwhole, hout, hsent, hsync⟩ := hs
  refine ⟨items ++ new, fun x hx => ?_, ?_, ?_, ?_⟩
  · rw [h.cfg]
    exact (List.mem_append.1 hx).elim (hwhole x) (h.whole x)
  · rw [h.out, hout, List.append_assoc, h.bytes]
    simp
  · rw [h.sent, hsent, List.countP_append, BitVec.ofNat_add]
  · have hcount := h.syncSent
    rw [hsync, BitVec.ofNat_add, add_right_comm, add_left_inj] at hcount
    rw [hcount, List.countP_append, add_assoc, BitVec.ofNat_add (List.countP _ items)]

/-- An operation that completes no item: the bytes it emits, if any, go on with the item under way. -/
theorem StreamStep.of_begun {s t : State} {bs : List Byte} (hcfg : t.cfg = s.cfg) (hout : t.txOut = s.txOut ++ bs)
    (hbegun : begun t = begun s ++ bs) (hsent : t.stats.sent = s.stats.sent)
    (hsync : t.stats.syncFramesSent = s.stats.syncFramesSent) (howner : t.owner = .sync ↔ s.owner = .sync) :
    StreamStep s t bs [] :=
  ⟨hcfg, hout, by simp, by simp [hbegun], by simp [hsent], by simp [hsync, howner]⟩

/-- An operation that leaves the stream's fields alone. -/
theorem StreamStep.of_eq {s t : State} (hcfg : t.cfg = s.cfg) (hout : t.txOut = s.txOut) (hbegun : begun t = begun s)
    (hsent : t.stats.sent = s.stats.sent) (hsync : t.stats.syncFramesSent = s.stats.syncFramesSent)
    (howner : t.owner = .sync ↔ s.owner = .sync) : StreamStep s t [] [] :=
  .of_begun hcfg (by simp [hout]) (by simp [hbegun]) hsent hsync howner

/-- A pass finds the SyncFrame wholly sent: it completes that item when it ends the resync or begins the next SyncFrame
(R122 to R125). -/
theorem Legal.streamStep_pass {s : State} (h : Legal s) (hp : passPossible s = true) (b : Option Byte) :
    ∃ new, StreamStep s (resyncPass b s) [] new := by
  obtain ⟨-, hst, hrem⟩ := passPossible_iff.1 hp
  have ho := h.sync.owns.2 hst
  have hbegun : begun s = syncFrame := by simp [begun_of_sync ho, hrem, syncFrame]
  obtain ⟨-, he⟩ | ⟨-, -, he⟩ | ⟨-, -, he⟩ := resyncPass_cases b s <;> rw [he]
  · have hend : begun (countPass b s).terminate = [] := begun_of_none rfl
    refine ⟨[.sync], ?_⟩
    constructor <;> simp [hbegun, hend, ho, TxItem.whole, TxItem.isFrame, TxItem.bytes]
  · have hnext : begun (countPass b s).resendSync.countSyncFrame = [] := begun_of_sync (by simp [ho])
    refine ⟨[.sync], ?_⟩
    constructor <;> simp [hbegun, hnext, ho, TxItem.whole, TxItem.isFrame, TxItem.bytes, inc32]
    rw [add_assoc]; rfl
  · refine ⟨[], .of_eq (by simp) (by simp) ?_ (by simp) (by simp) (by simp)⟩
    apply begun_congr <;> simp [slotFrame]

/-- What each operation adds to the transmit stream. -/
theorem Effect.streamStep {i : Instr} {s t : State} (h : Legal s) (e : Effect i s t) :
    ∃ bs new, StreamStep s t bs new := by
  cases e with
  | rxPass hp | timeoutPass hp => exact ⟨[], h.streamStep_pass hp _⟩
  | @put d v q _ _ hf =>
    refine ⟨[], [], .of_eq (by simp) (by simp) ?_ (by simp) (by simp) (by simp)⟩
    cases ho : s.owner with
    | none => rw [begun_of_none ho, begun_of_none (by simpa using ho)]
    | sync => rw [begun_of_sync ho, begun_of_sync (by simpa using ho), putResult_syncTxRem]
    | sender =>
      have hne : s.sndSlot ≠ v := by
        rintro rfl
        exact (h.slots.acquire hf).2.2 (by simp [inFlight, h.sender.owns.1 ho])
      apply begun_congr <;> simp [slotFrame_putResult_of_ne s d q hne]
  | deqGranted _ _ hg =>
    have ho := (tryGranted_iff.1 hg).1
    refine ⟨[], [], .of_eq (by simp) (by simp) ?_ (by simp) (by simp) (by simp [ho])⟩
    rw [begun_of_none ho, begun_of_sender (by simp)]
    simp
  | acquired hr =>
    have ho := (syncReady_iff.1 hr).2.2
    have hbegun : begun s.grantSync.countTriggered.countSyncFrame = [] := begun_of_sync rfl
    refine ⟨[], [], ?_⟩
    constructor <;> simp [begun_of_none ho, hbegun, ho, inc32]
  | @txMid b _ _ ho _ _ hb hne =>
    obtain ⟨f, hf, -⟩ := h.sender_frame ho
    have hidx : s.sndIdx.toNat < 14 := lt_of_le_of_ne h.sender.idx fun hc => hne (BitVec.eq_of_toNat_eq hc)
    have hsucc : (s.sndIdx + 1).toNat = s.sndIdx.toNat + 1 := by
      rw [BitVec.toNat_add]; exact Nat.mod_eq_of_lt (by simp; omega)
    have hft : slotFrame (s.emit b).advanceTx s.sndSlot = some f := hf
    refine ⟨[b], [], .of_begun (by simp) (by simp) ?_ (by simp) (by simp) (by simp)⟩
    rw [begun_concat_of_sender ho hf (hidx.trans (by decide)) hb, begun_of_sender (by simpa using ho),
      State.advanceTx_sndIdx, State.emit_sndIdx, hsucc, State.advanceTx_sndSlot, State.emit_sndSlot, hft]
    rfl
  | @txLast b _ _ ho _ _ hb h14 =>
    obtain ⟨f, hf, hw⟩ := h.sender_frame ho
    refine ⟨[b], [.frame f], by simp, by simp, by simp [hw], ?_, by simp [TxItem.isFrame, inc32],
      by simp [ho, TxItem.isFrame]⟩
    rw [begun_concat_of_sender ho hf (by simp [h14]) hb, begun_of_none (by simp), h14]
    simpa [TxItem.bytes] using hw.1.le
  | txSync _ ho hrem =>
    have hpred : (s.syncTxRem - 1).toNat = s.syncTxRem.toNat - 1 :=
      BitVec.toNat_sub_of_le (BitVec.le_def.2 hrem)
    have hlt := s.syncTxRem.isLt
    have hlen : frameSize - (s.syncTxRem.toNat - 1) = frameSize - s.syncTxRem.toNat + 1 := by
      simp only [frameSize]; omega
    refine ⟨[0xFF], [], .of_begun (by simp) (by simp) ?_ (by simp) (by simp) (by simp)⟩
    rw [begun_of_sync ho, begun_of_sync (by simpa using ho), State.syncByteSent_syncTxRem, State.emit_syncTxRem, hpred,
      hlen, List.replicate_succ']
  | _ =>
    refine ⟨[], [], .of_eq (by simp) (by simp) ?_ (by simp) (by simp) (by simp)⟩
    apply begun_congr <;> simp [slotFrame]

/-! ## The invariant of the stream -/

theorem WholeFrames.congr {s t : State} (h : WholeFrames s) (hcfg : t.cfg = s.cfg) (hout : t.txOut = s.txOut)
    (hbegun : begun t = begun s) (hstats : t.stats = s.stats) (howner : t.owner = s.owner) : WholeFrames t :=
  (StreamStep.of_eq hcfg hout hbegun (by rw [hstats]) (by rw [hstats]) (by rw [howner])).keeps_wholeFrames h

/-- At reset nothing is emitted, begun or counted (R34, R200). -/
theorem WholeFrames.resetWith (c : Config) : WholeFrames (State.resetWith c) :=
  ⟨[], by simp, by simp [begun_of_none, State.resetWith], rfl, rfl⟩

/-- Settles O31: every operation from a legal state extends the stream by whole items and what is begun. -/
theorem transmitStreamIsWholeFrames : Obligations.TransmitStreamIsWholeFrames := by
  intro s t hl hs hst
  have hkept : Legal t ∧ WholeFrames t := by
    refine step_keeps (P := fun u => Legal u ∧ WholeFrames u) ?_ ?_ ?_ ?_ ⟨hl, hs⟩ hst
    · rintro u l ⟨hl, hs⟩
      exact ⟨hl.setInputs l, hs.congr rfl rfl rfl rfl rfl⟩
    · rintro c u ⟨hl, hs⟩
      exact ⟨hl.setTimer c, hs.congr rfl rfl rfl rfl rfl⟩
    · rintro u ⟨hl, -⟩
      exact ⟨hl.atResetEdge, (WholeFrames.resetWith u.cfg).congr rfl rfl rfl rfl rfl⟩
    · rintro i u v ⟨hl, hs⟩ he
      obtain ⟨bs, new, hstep⟩ := (exec_effect he).streamStep hl
      exact ⟨hl.of_exec he, hstep.keeps_wholeFrames hs⟩
  exact hkept.2

/-- Settles O32. -/
theorem transmitStreamAtReset : Obligations.TransmitStreamAtReset :=
  fun c => ⟨rfl, rfl, begun_of_none rfl, .resetWith c⟩

/-- Settles O51: operations, a new schedule, the timer's update and a reset keep the legal states. -/
theorem legalStatesKept : Obligations.LegalStatesKept := fun _ _ h hst => h.of_step hst

/-- Settles O52. -/
theorem resetIsLegal : Obligations.ResetIsLegal := fun _ hw => .resetWith hw

/-- Settles O25: at reset every slot index stands once in the free FIFO. -/
theorem slotsConservedAtReset : Obligations.SlotsConservedAtReset := fun _ hw => .resetWith hw

end Sys2Proof.Machine
end

section
/-! SUPPORT. Lifecycle and registers (R21, R35 to R42, R170 to R172), then the output pins and the reset edge (R26, R27,
R200). -/

namespace Sys2Proof.Machine

/-! ## INIT, START and the lifecycle -/

/-- Settles O6: the step takes the clock edge off the schedule and runs it. -/
theorem stepTakesClockEdge : Obligations.StepTakesClockEdge := by
  intro s c rest hw hi
  exact step_of_inputs_cons hw hi

/-- Settles O10. -/
theorem initMovesUninitToStopped : Obligations.InitMovesUninitToStopped := by
  refine fun s => ⟨rfl, fun h => ?_, fun h => ?_⟩
  · rw [exec, execInit, if_pos h]; rfl
  · rw [exec, execInit, if_neg h]

/-- Settles O11. -/
theorem startMovesStoppedToActive : Obligations.StartMovesStoppedToActive := by
  refine fun s => ⟨rfl, fun h => ?_, fun h => ?_⟩
  · rw [exec, execStart, if_pos h]; rfl
  · rw [exec, execStart, if_neg h]

/-- LSTATE moves only by INIT in UNINIT and by START in STOPPED (R21). -/
theorem Effect.lstate_cases {i : Instr} {s t : State} (e : Effect i s t) :
    t.lstate = s.lstate ∨ (i = .init ∧ s.lstate = .uninit ∧ t.lstate = .stopped) ∨
      (i = .start ∧ s.lstate = .stopped ∧ t.lstate = .active) := by
  cases e with
  | initTakes h => exact .inr (.inl ⟨rfl, h, rfl⟩)
  | startTakes h => exact .inr (.inr ⟨rfl, h, rfl⟩)
  | _ => exact .inl (by simp)

theorem execRxByte_of_not_active {s : State} (hl : s.lstate ≠ .active) (b : Byte) :
    exec (.rxByte b) s = .next s := by
  rw [exec, execRxByte, if_pos (rxReady_iff.2 (.inl hl)), if_pos hl]

/-- Outside ACTIVE only INIT, START, REG_READ and a discarded RX_BYTE are enabled (R21, R164). -/
theorem enabled_of_not_active {i : Instr} {s : State} (hen : enabled i s = true) (hl : s.lstate ≠ .active) :
    i = .init ∨ i = .start ∨ (∃ a, i = .regRead a) ∨ ∃ b, i = .rxByte b ∧ exec i s = .next s := by
  cases i with
  | init => exact .inl rfl
  | start => exact .inr (.inl rfl)
  | regRead a => exact .inr (.inr (.inl ⟨a, rfl⟩))
  | rxByte b => exact .inr (.inr (.inr ⟨b, rfl, execRxByte_of_not_active hl b⟩))
  | putFrame => exact absurd (putReady_iff.1 hen).1 hl
  | txByte => exact absurd (txValid_iff.1 hen).1 hl
  | timeout => exact absurd (passPossible_iff.1 hen).1 hl
  | sndDeq => exact absurd (sndReady_iff.1 hen).1 hl
  | syncAcq => exact absurd (syncReady_iff.1 hen).1 hl

theorem clockEdge_of_reset {c : ClockCycle} (hr : c.rstN = false) (s : State) :
    clockEdge c s = .next (resetEdge s) := by
  simp [clockEdge, hr]

theorem clockEdge_of_running {c : ClockCycle} (hr : c.rstN = true) (s : State) :
    clockEdge c s = execAll (cycleOps c s) (s.setTimer (nextTimer c s)) := by
  simp [clockEdge, hr]

/-- Settles O17, by the moves of LSTATE and the guards; an edge without reset performs operations, none of which leaves
ACTIVE. -/
theorem lifecycleOnlyMovesForward : Obligations.LifecycleOnlyMovesForward := by
  refine ⟨fun i s t he => (exec_effect he).lstate_cases, fun i s hen => ?_,
    fun c s t hc => ⟨fun hr => ?_, fun hr hl => ?_⟩⟩
  · by_cases hl : s.lstate = .active
    · exact .inl hl
    · exact .inr (enabled_of_not_active hen hl)
  · rw [clockEdge_of_reset hr] at hc
    cases hc
    rfl
  · rw [clockEdge_of_running hr] at hc
    have hl' : (s.setTimer (nextTimer c s)).lstate = .active := hl
    exact execAll_keeps (fun _ _ _ hu he => (exec_effect he).stays_active hu) hl' hc

/-! ## Register reads -/

theorem regRead_reserved {a : Byte} (ha : 11 ≤ a.toNat / 4) (s : State) : regRead a s = 0 := by
  rw [regRead, regIndex_eq]
  split
  case h_11 => rfl
  all_goals omega

/-- Settles O12: the register is selected by the word address, and the read only records its value. -/
theorem regReadReturnsRegister : Obligations.RegReadReturnsRegister := by
  refine fun a s => ⟨rfl, regRead a s, rfl, ?_⟩
  refine ⟨?_, ?_, ?_, ?_, ?_, ?_, ?_, ?_, ?_, ?_, ?_, fun ha => regRead_reserved ha s⟩ <;> intro ha <;>
    simp only [regRead, regIndex_eq, ha]

/-- Settles O16: `regRead` looks at neither byte store. -/
theorem registersHideStores : Obligations.RegistersHideStores := fun _ _ _ _ => rfl

/-! ## The fields of STATUS and CONFIG -/

/-- The two one-bit fields of STATUS (R37). -/
theorem statusWord_flags (s : State) :
    (statusWord s).getLsbD 6 = sndBusy s ∧ (statusWord s).getLsbD 7 = putReady s := by
  simp only [statusWord, BitVec.getLsbD_append]
  simp

/-- The wider fields of STATUS, least significant first (R37). -/
theorem statusWord_fields (s : State) :
    (statusWord s).extractLsb' 0 2 = s.lstate.bits ∧ (statusWord s).extractLsb' 2 2 = s.syncState.bits ∧
    (statusWord s).extractLsb' 4 2 = s.owner.bits ∧ (statusWord s).extractLsb' 8 4 = s.rxCnt ∧
    (statusWord s).extractLsb' 12 4 = s.syncTxRem ∧ (statusWord s).extractLsb' 16 4 = s.hitCnt ∧
    (statusWord s).extractLsb' 20 8 = s.tmoCnt ∧ (statusWord s).extractLsb' 28 4 = s.sndIdx := by
  unfold statusWord
  simp (disch := decide) only [BitVec.extractLsb'_append_eq_of_le, BitVec.extractLsb'_append_eq_of_add_le]
  simp

/-- Settles O13, by the fields of the word and the values of their encodings. -/
theorem statusFields : Obligations.StatusFields := by
  refine ⟨fun a s ha => by simp only [regRead, regIndex_eq, ha], fun s => ?_, fun c => ?_⟩
  · obtain ⟨hbusy, hput⟩ := statusWord_flags s
    obtain ⟨hl, hsync, ho, hrx, hrem, hhit, htmo, hidx⟩ := statusWord_fields s
    refine ⟨hl.trans ?_, hsync.trans ?_, ho.trans ?_, by rw [hbusy, sndBusy, decide_eq_true_iff],
      by rw [hput, putReady_iff], hrx, hrem, hhit, htmo, hidx⟩
    · cases s.lstate <;> rfl
    · cases s.syncState <;> rfl
    · cases s.owner <;> rfl
  · have hput : putReady (State.resetWith c) = false := rfl
    have hbusy : sndBusy (State.resetWith c) = false := rfl
    rw [statusWord, hput, hbusy]
    simp [State.resetWith, Lifecycle.bits, SyncState.bits, Owner.bits]

/-- The fields of CONFIG, least significant first (R40). -/
theorem configWord_fields (c : Config) :
    (configWord c).getLsbD 0 = decide (c.checksumAlg = .sum8) ∧
    (configWord c).getLsbD 1 = decide (c.syncHitMode = .contiguous) ∧
    (configWord c).getLsbD 2 = decide (c.tmoCountMode = .timeoutOnly) ∧ (configWord c).extractLsb' 3 5 = 0 ∧
    (configWord c).extractLsb' 8 8 = BitVec.ofNat 8 c.nSlots ∧
    (configWord c).extractLsb' 16 8 = BitVec.ofNat 8 c.syncTimeoutThrs ∧
    (configWord c).extractLsb' 24 8 = BitVec.ofNat 8 frameSize := by
  simp (disch := decide) only [configWord, BitVec.extractLsb'_append_eq_of_le, BitVec.extractLsb'_append_eq_of_add_le,
    BitVec.getLsbD_append]
  simp

theorem step_cfg {s t : State} (h : step s = .next t) : t.cfg = s.cfg :=
  step_keeps (P := fun u => u.cfg = s.cfg) (fun _ _ h => h) (fun _ _ h => h) (fun _ h => h)
    (fun _ _ _ h he => (exec_cfg he).trans h) rfl h

/-- Settles O14: no step writes the parameters, and a legal configuration's sizes fit their bytes. -/
theorem configFields : Obligations.ConfigFields := by
  refine ⟨fun s t h => by rw [step_cfg h], fun a s ha => by simp only [regRead, regIndex_eq, ha], fun c hw => ?_,
    by decide⟩
  obtain ⟨-, hn, -, hthrs, -⟩ := Config.wf_iff.1 hw
  obtain ⟨halg, hhit, htmo, hzero, hslots, hthr, hsize⟩ := configWord_fields c
  refine ⟨by rw [halg, decide_eq_true_iff], by rw [hhit, decide_eq_true_iff], by rw [htmo, decide_eq_true_iff],
    hzero, ?_, ?_, by rw [hsize]; rfl⟩
  · rw [hslots, BitVec.toNat_ofNat, Nat.mod_eq_of_lt (by omega)]
  · rw [hthr, BitVec.toNat_ofNat, Nat.mod_eq_of_lt (by omega)]

/-! ## Register writes -/

/-- The byte timer rests at 0 while no pass is possible (R127, log 7). -/
theorem nextTimer_of_no_pass {s : State} (hp : passPossible s = false) (c : ClockCycle) : nextTimer c s = 0 := by
  simp [nextTimer, hp]

/-- On an edge on which only reg_wr is up the command of the write is all there is to perform. -/
theorem clockEdge_of_only_write {c : ClockCycle} {s : State} (hrst : c.rstN = true) (hwr : c.regWr = true)
    (hrd : c.regRd = false) (hput : c.putValid = false) (htx : c.txReady = false) (hrx : c.rxValid = false)
    (hsync : c.syncGo = false) (hsnd : c.sndGo = false) (hp : passPossible s = false) :
    clockEdge c s = execAll (ctrlCommand c.regAddr c.regWdata).toList (s.setTimer 0) := by
  have hops : cycleOps c s = (ctrlCommand c.regAddr c.regWdata).toList := by
    simp [cycleOps, rxXfer, txXfer, putXfer, timerExpires, hwr, hrd, hput, htx, hrx, hsync, hsnd, hp]
  rw [clockEdge_of_running hrst, hops, nextTimer_of_no_pass hp]

theorem execAll_singleton (i : Instr) (s : State) : execAll [i] s = exec i s := by
  rw [execAll]
  cases exec i s <;> rfl

/-- Settles O15: the edge performs the write's command and nothing else. -/
theorem registerWriteIsCommand : Obligations.RegisterWriteIsCommand := by
  intro c s hrst hwr hrd hput htx hrx hsync hsnd hp
  rw [clockEdge_of_only_write hrst hwr hrd hput htx hrx hsync hsnd hp, ctrlCommand_eq]
  refine ⟨fun ha hd => ?_, fun ha hd => ?_, fun h => ?_⟩
  · rw [if_pos ha, if_pos hd]
    exact execAll_singleton .init _
  · rw [if_pos ha, if_neg (by omega), if_pos hd]
    exact execAll_singleton .start _
  · obtain ha | ⟨h1, h2⟩ := h
    · rw [if_neg ha]; rfl
    · rw [if_neg h1, if_neg h2, ite_self]; rfl

/-! ## Pins and reset -/

/-- Settles O55. -/
theorem resetEdgeRestoresResetState : Obligations.ResetEdgeRestoresResetState := by
  intro c s hr
  have hout : outputs c s = pinsOf c.regAddr (resetEdge s) := by simp [outputs, hr]
  rw [clockEdge_of_reset hr, hout]
  exact ⟨rfl, rfl, rfl, rfl, rfl⟩

/-- Settles O58. -/
theorem pinsFollowGuards : Obligations.PinsFollowGuards := by
  intro c s d b hr
  have hout : outputs c s = pinsOf c.regAddr s := by simp [outputs, hr]
  rw [hout]
  exact ⟨rfl, rfl, rfl, rfl, rfl⟩

/-- Settles O21: the slots not free are those queued or in transmission. -/
theorem putReadyWhileSlotsRemain : Obligations.PutReadyWhileSlotsRemain := by
  intro s h hl
  have hlen := h.length_allSlots
  simp only [allSlots, List.length_append] at hlen
  simp only [putReady_iff, hl, true_and]
  omega

end Sys2Proof.Machine
end

section
/-! SUPPORT. Who writes what: the statistics, the channel's owner, the sync FSM's state and the stores (R20, R22, R28 to
R30, R34). -/

namespace Sys2Proof.Machine

variable {i : Instr} {s t : State}

/-! ## The six counters (R34) -/

theorem Effect.sent_cases (e : Effect i s t) : t.stats.sent = s.stats.sent ∨
    (t.stats.sent = s.stats.sent + 1 ∧ i = .txByte ∧ s.owner = .sender ∧ s.sndIdx = 14) := by
  cases e with
  | txLast _ ho _ _ _ h14 => exact .inr ⟨rfl, rfl, ho, h14⟩
  | _ => exact .inl (by simp)

theorem Effect.sent_succ (e : Effect .txByte s t) (hl : s.lstate = .active) (ho : s.owner = .sender)
    (hst : s.sndState = .tx) (h14 : s.sndIdx = 14) : t.stats.sent = s.stats.sent + 1 := by
  cases e with
  | held h => exact absurd (txValid_iff.2 ⟨hl, .inl ⟨ho, hst⟩⟩) (Bool.eq_false_iff.1 h)
  | txMid _ _ _ _ _ hne => exact absurd h14 hne
  | txLast => rfl
  | txSync _ hsync => rw [ho] at hsync; cases hsync

theorem Effect.received_cases (e : Effect i s t) : t.stats.received = s.stats.received ∨
    (t.stats.received = s.stats.received + 1 ∧ (∃ b, i = .rxByte b) ∧ s.syncState = .synced ∧ s.rxCnt = 14 ∧
      t.syncState = .synced) := by
  cases e with
  | @rxGood b _ _ _ hs hcnt => exact .inr ⟨rfl, ⟨b, rfl⟩, hs, BitVec.eq_of_toNat_eq hcnt, hs⟩
  | _ => exact .inl (by simp)

theorem Effect.received_succ {b : Byte} (e : Effect (.rxByte b) s t) (hl : s.lstate = .active)
    (hs : s.syncState = .synced) (h14 : s.rxCnt = 14) (ht : t.syncState = .synced) :
    t.stats.received = s.stats.received + 1 := by
  cases e with
  | held h => exact absurd (rxReady_iff.2 (.inr (.inl hs))) (Bool.eq_false_iff.1 h)
  | rxDiscard h => exact absurd hl h
  | rxMid _ _ hlt => rw [h14] at hlt; exact absurd hlt (by decide)
  | rxGood => rfl
  | rxBad => cases ht
  | rxPass hp => have hre := (passPossible_iff.1 hp).2.1; rw [hs] at hre; cases hre

theorem Effect.lost_cases (e : Effect i s t) : t.stats.lost = s.stats.lost ∨
    (t.stats.lost = s.stats.lost + 1 ∧ i = .sndDeq ∧ tryGranted s = false) := by
  cases e with
  | deqLost _ _ hg => exact .inr ⟨rfl, rfl, hg⟩
  | _ => exact .inl (by simp)

theorem Effect.lost_succ (e : Effect .sndDeq s t) (hr : sndReady s = true) (hg : tryGranted s = false) :
    t.stats.lost = s.stats.lost + 1 := by
  cases e with
  | held h => exact absurd hr (Bool.eq_false_iff.1 h)
  | deqGranted _ _ hg' => rw [hg] at hg'; cases hg'
  | deqLost => rfl

theorem Effect.syncTriggered_cases (e : Effect i s t) : t.stats.syncTriggered = s.stats.syncTriggered ∨
    (t.stats.syncTriggered = s.stats.syncTriggered + 1 ∧ i = .syncAcq) := by
  cases e with
  | acquired => exact .inr ⟨rfl, rfl⟩
  | _ => exact .inl (by simp)

theorem Effect.syncTriggered_succ (e : Effect .syncAcq s t) (hr : syncReady s = true) :
    t.stats.syncTriggered = s.stats.syncTriggered + 1 := by
  cases e with
  | held h => exact absurd hr (Bool.eq_false_iff.1 h)
  | acquired => rfl

/-- The operations that are ticks where a pass is possible (R123). -/
abbrev IsTickOp (c : Config) (i : Instr) : Prop :=
  i = .timeout ∨ (∃ b, i = .rxByte b) ∧ c.tmoCountMode = .everyPass

theorem Effect.syncTmoTicks_cases (e : Effect i s t) : t.stats.syncTmoTicks = s.stats.syncTmoTicks ∨
    (t.stats.syncTmoTicks = s.stats.syncTmoTicks + 1 ∧ passPossible s = true ∧ IsTickOp s.cfg i) := by
  cases e with
  | timeoutPass hp => exact .inr ⟨by simp [resyncPass_stats_syncTmoTicks, isTick], hp, .inl rfl⟩
  | @rxPass b _ hp =>
    by_cases hm : s.cfg.tmoCountMode = .everyPass
    · exact .inr ⟨by simp [resyncPass_stats_syncTmoTicks, isTick, hm], hp, .inr ⟨⟨b, rfl⟩, hm⟩⟩
    · exact .inl (by simp [resyncPass_stats_syncTmoTicks, isTick, hm])
  | _ => exact .inl (by simp)

theorem Effect.syncTmoTicks_succ (e : Effect i s t) (hp : passPossible s = true) (hi : IsTickOp s.cfg i) :
    t.stats.syncTmoTicks = s.stats.syncTmoTicks + 1 := by
  obtain ⟨hl, hst, hrem⟩ := passPossible_iff.1 hp
  obtain rfl | ⟨⟨b, rfl⟩, hm⟩ := hi
  · cases e with
    | held h => exact absurd hp (Bool.eq_false_iff.1 h)
    | timeoutPass => simp [resyncPass_stats_syncTmoTicks, isTick]
  · cases e with
    | held h => exact absurd (rxReady_iff.2 (.inr (.inr ⟨hst, hrem⟩))) (Bool.eq_false_iff.1 h)
    | rxDiscard h => exact absurd hl h
    | rxMid _ hs | rxGood _ hs | rxBad _ hs => rw [hst] at hs; cases hs
    | rxPass => simp [resyncPass_stats_syncTmoTicks, isTick, hm]

theorem Effect.syncFramesSent_cases (e : Effect i s t) : t.stats.syncFramesSent = s.stats.syncFramesSent ∨
    (t.stats.syncFramesSent = s.stats.syncFramesSent + 1 ∧ t.syncTxRem = 15 ∧
      (i = .syncAcq ∨ (passPossible s = true ∧ (i = .timeout ∨ ∃ b, i = .rxByte b)))) := by
  cases e with
  | acquired => exact .inr ⟨rfl, rfl, .inl rfl⟩
  | timeoutPass hp =>
    exact (resyncPass_syncFramesSent none s).imp And.left fun h => ⟨h.1, h.2, .inr ⟨hp, .inl rfl⟩⟩
  | @rxPass b _ hp =>
    exact (resyncPass_syncFramesSent (some b) s).imp And.left fun h => ⟨h.1, h.2, .inr ⟨hp, .inr ⟨b, rfl⟩⟩⟩
  | _ => exact .inl (by simp)

theorem Effect.syncFramesSent_succ (e : Effect i s t) (ht : t.syncTxRem = 15) (hs : s.syncTxRem = 0) :
    t.stats.syncFramesSent = s.stats.syncFramesSent + 1 := by
  cases e with
  | acquired => rfl
  | txSync _ _ hrem => rw [hs] at hrem; exact absurd hrem (by decide)
  | timeoutPass | rxPass =>
    obtain ⟨-, hkept⟩ | ⟨hsucc, -⟩ := resyncPass_syncFramesSent _ s
    · rw [hkept, hs] at ht; exact absurd ht (by decide)
    · exact hsucc
  | _ => simp [hs] at ht

/-- Settles O18: each counter's cases and the case in which it advances. -/
theorem countersHaveOneWriter : Obligations.CountersHaveOneWriter := by
  intro i s t he
  have e := exec_effect he
  refine ⟨e.sent_cases, ?_, e.received_cases, ?_, e.lost_cases, ?_, e.syncTriggered_cases, ?_, e.syncTmoTicks_cases,
    e.syncTmoTicks_succ, e.syncFramesSent_cases, e.syncFramesSent_succ⟩
  · rintro rfl; exact e.sent_succ
  · rintro b rfl; exact e.received_succ
  · rintro rfl; exact e.lost_succ
  · rintro rfl; exact e.syncTriggered_succ

/-! ## OWNER and SYNC_STATE (R28, R30) -/

/-- Settles O34: the cases of `Effect` that write OWNER; a pass writes it at the fifteenth hit. -/
theorem ownerChangesOnlyAsRuled : Obligations.OwnerChangesOnlyAsRuled := by
  intro i s t h he
  cases exec_effect he with
  | deqGranted _ _ hg => exact .inr (.inl ⟨rfl, hg, (tryGranted_iff.1 hg).1, rfl⟩)
  | acquired hr =>
    obtain ⟨-, hst, ho⟩ := syncReady_iff.1 hr
    exact .inr (.inr (.inl ⟨rfl, hst, ho, rfl⟩))
  | txLast _ ho _ _ _ h14 => exact .inr (.inr (.inr (.inl ⟨rfl, h14, ho, rfl⟩)))
  | timeoutPass hp =>
    obtain ⟨ho, -⟩ | ⟨hb, -⟩ := h.pass_cases none
    · exact .inl ho
    · cases hb
  | @rxPass b _ hp =>
    obtain ⟨ho, -⟩ | ⟨hb, hhit, ho, hst⟩ := h.pass_cases (some b)
    · exact .inl ho
    · have hsync := h.owns.2 (passPossible_iff.1 hp).2.1
      exact .inr (.inr (.inr (.inr ⟨b, rfl, hsync, hhit, Option.some.inj hb, ho, hst⟩)))
  | _ => exact .inl (by simp)

/-- Settles O35: the cases of `Effect` that write SYNC_STATE; a pass writes it at the fifteenth hit. -/
theorem syncStateTransitions : Obligations.SyncStateTransitions := by
  intro i s t h he
  cases exec_effect he with
  | @rxBad b _ _ _ hs hcnt => exact .inr (.inl ⟨b, rfl, hs, rfl, BitVec.eq_of_toNat_eq hcnt⟩)
  | acquired hr => exact .inr (.inr (.inl ⟨rfl, (syncReady_iff.1 hr).2.1, rfl⟩))
  | timeoutPass hp =>
    obtain ⟨-, hst⟩ | ⟨hb, -⟩ := h.pass_cases none
    · exact .inl hst
    · cases hb
  | @rxPass b _ hp =>
    obtain ⟨-, hst⟩ | ⟨hb, hhit, -, hst⟩ := h.pass_cases (some b)
    · exact .inl hst
    · cases hb
      exact .inr (.inr (.inr ⟨rfl, (passPossible_iff.1 hp).2.1, hst, hhit⟩))
  | _ => exact .inl (by simp)

/-! ## The stores and the model's lists (R20, R22, R29) -/

theorem Effect.keeps_inputs (e : Effect i s t) : t.inputs = s.inputs := by
  cases e <;> simp

theorem Effect.keeps_slots (e : Effect i s t) (hi : ∀ d, i ≠ .putFrame d) : t.slots = s.slots := by
  cases e with
  | @put d => exact absurd rfl (hi d)
  | _ => simp

theorem Effect.keeps_txOut (e : Effect i s t) (hi : i ≠ .txByte) : t.txOut = s.txOut := by
  cases e with
  | txMid | txLast | txSync => exact absurd rfl hi
  | _ => simp

theorem Effect.keeps_rdOut (e : Effect i s t) (hi : ∀ a, i ≠ .regRead a) : t.rdOut = s.rdOut := by
  cases e with
  | @read a => exact absurd rfl (hi a)
  | _ => simp

/-- Only a byte received in ACTIVE and SYNCED goes to RX_BUF (R29, R161). -/
theorem Effect.keeps_rxBuf (e : Effect i s t)
    (hi : (∀ b, i ≠ .rxByte b) ∨ s.syncState ≠ .synced ∨ s.lstate ≠ .active) :
    t.rxBuf = s.rxBuf ∧ (t.rxCnt = s.rxCnt ∨ t.rxCnt = 0) := by
  cases e with
  | @rxMid b _ hl hs | @rxGood b _ _ hl hs | @rxBad b _ _ hl hs =>
    obtain hi | hi | hi := hi
    · exact absurd rfl (hi b)
    · exact absurd hs hi
    · exact absurd hl hi
  | rxPass | timeoutPass => exact ⟨resyncPass_rxBuf .., resyncPass_rxCnt_cases ..⟩
  | _ => exact ⟨by simp, .inl (by simp)⟩

/-- Settles O50, one lemma a store. -/
theorem storesHaveOneWriter : Obligations.StoresHaveOneWriter := by
  intro i s t he
  have e := exec_effect he
  exact ⟨exec_cfg he, e.keeps_byteTimer, e.keeps_inputs, e.keeps_slots, e.keeps_rxBuf, e.keeps_txOut, e.keeps_rdOut⟩

end Sys2Proof.Machine
end

section
/-! SUPPORT. The byte offered on the transmit stream (R27, R103). -/

namespace Sys2Proof.Machine

/-- The offered byte: the sender's stored byte, or 0xFF of a SyncFrame not wholly sent (R103). -/
theorem txData_eq_some {s : State} {b : Byte} : txData s = some b ↔ s.lstate = .active ∧
    ((s.owner = .sender ∧ s.sndState = .tx ∧ slotAddr s.sndSlot s.sndIdx.toNat < s.cfg.nSlots * frameSize ∧
        s.slots.read (slotAddr s.sndSlot s.sndIdx.toNat) = some b) ∨
      (s.owner = .sync ∧ 0 < s.syncTxRem.toNat ∧ b = 0xFF)) := by
  cases ho : s.owner with
  | none => simp [txData, txValid, txOffered, ho]
  | sync =>
    by_cases hv : s.lstate = .active ∧ 0 < s.syncTxRem.toNat
    · simp [txData, txValid, txOffered, txByteOf, ho, hv, eq_comm]
    · have hoff : txValid s ≠ true := fun hc => hv (by simpa [txValid_iff, ho] using hc)
      rw [txData, if_neg hoff]
      simp only [reduceCtorEq, false_iff, false_and, false_or]
      rintro ⟨hl, -, hrem, -⟩
      exact hv ⟨hl, hrem⟩
  | sender =>
    by_cases hv : s.lstate = .active ∧ s.sndState = .tx
    · have hon : txValid s = true := txValid_iff.2 ⟨hv.1, .inl ⟨ho, hv.2⟩⟩
      have hbyte : txData s = some b ↔ memRead (slotAddr s.sndSlot s.sndIdx.toNat) s = .ok b := by
        rw [txData, if_pos hon, txByteOf, if_pos ⟨ho, hv.2⟩]
        cases memRead (slotAddr s.sndSlot s.sndIdx.toNat) s <;> simp [bind, Except.bind, pure, Except.pure]
      rw [hbyte, memRead_eq_ok]
      simp [hv]
    · have hoff : txValid s ≠ true := fun hc => hv (by simpa [txValid_iff, ho] using hc)
      rw [txData, if_neg hoff]
      simp only [reduceCtorEq, false_iff, false_and, or_false]
      rintro ⟨hl, -, hst, -⟩
      exact hv ⟨hl, hst⟩

theorem txValid_of_txData {s : State} {b : Byte} (h : txData s = some b) : txValid s = true := by
  obtain ⟨hl, ⟨ho, hst, -⟩ | ⟨ho, hrem, -⟩⟩ := txData_eq_some.1 h
  · exact txValid_iff.2 ⟨hl, .inl ⟨ho, hst⟩⟩
  · exact txValid_iff.2 ⟨hl, .inr ⟨ho, hrem⟩⟩

/-- A performed TX_BYTE emits the offered byte (R104). -/
theorem Effect.emits_txData {s t : State} (e : Effect .txByte s t) (hv : txValid s = true) :
    ∃ b, txData s = some b ∧ t.txOut = s.txOut ++ [b] := by
  have hl := (txValid_iff.1 hv).1
  cases e with
  | held h => rw [enabled, hv] at h; cases h
  | @txMid b _ _ ho hst haddr hb | @txLast b _ _ ho hst haddr hb =>
    exact ⟨b, txData_eq_some.2 ⟨hl, .inl ⟨ho, hst, haddr, hb⟩⟩, rfl⟩
  | txSync _ ho hrem => exact ⟨0xFF, txData_eq_some.2 ⟨hl, .inr ⟨ho, hrem, rfl⟩⟩, rfl⟩

/-- In a legal state an enabled TX_BYTE completes and emits the offered byte (R201). -/
theorem Legal.txByte_emits {s : State} (h : Legal s) (hv : txValid s = true) :
    ∃ b t, txData s = some b ∧ exec .txByte s = .next t ∧ t.txOut = s.txOut ++ [b] := by
  obtain ⟨t, ht⟩ := h.exec_completes .txByte
  obtain ⟨b, hb, hout⟩ := (exec_effect ht).emits_txData hv
  exact ⟨b, t, hb, ht, hout⟩

theorem txData_congr {s t : State} {b : Byte} (h : txData s = some b) (h₁ : t.lstate = s.lstate)
    (h₂ : t.owner = s.owner) (h₃ : t.sndState = s.sndState) (h₄ : t.sndSlot = s.sndSlot) (h₅ : t.sndIdx = s.sndIdx)
    (h₆ : t.syncTxRem = s.syncTxRem) (h₇ : t.cfg = s.cfg) (h₈ : t.slots = s.slots) : txData t = some b := by
  rw [txData_eq_some, h₁, h₂, h₃, h₄, h₅, h₆, h₇, h₈]
  exact txData_eq_some.1 h

/-- A PUT_FRAME fills a slot other than the one in transmission, so the offered byte stays (R64). -/
theorem Legal.txData_putResult {s : State} (h : Legal s) {v : SlotIx} {q : List SlotIx} (hf : s.freeQ = v :: q)
    (d : PutData) {b : Byte} (hb : txData s = some b) : txData (putResult s d v q) = some b := by
  have hread : s.sndState = .tx → (putResult s d v q).slots.read (slotAddr s.sndSlot s.sndIdx.toNat) =
      s.slots.read (slotAddr s.sndSlot s.sndIdx.toNat) := by
    intro hst
    have hne : s.sndSlot.toNat ≠ v.toNat := fun hc =>
      (h.slots.acquire hf).2.2 (by simp [inFlight, hst, ← BitVec.eq_of_toNat_eq hc])
    have hidx := h.sender.idx
    rw [putResult_slots, Memory.read_writeBytes, stamp_length, if_neg]
    simp only [slotAddr, frameSize]
    omega
  obtain ⟨hl, hoff⟩ := txData_eq_some.1 hb
  refine txData_eq_some.2 ⟨by simpa using hl, ?_⟩
  simp only [putResult_owner, putResult_sndState, putResult_sndSlot, putResult_sndIdx, putResult_syncTxRem,
    putResult_cfg]
  exact hoff.imp_left fun ⟨ho, hst, haddr, hb⟩ => ⟨ho, hst, haddr, (hread hst).trans hb⟩

/-- Where a byte is offered, no operation that writes OWNER, the sender or SYNC_TX_REM is performed but TX_BYTE; a
PUT_FRAME writes another slot (R27). -/
theorem Legal.txData_stable {i : Instr} {s t : State} {b : Byte} (h : Legal s) (hi : i ≠ .txByte)
    (hb : txData s = some b) (e : Effect i s t) : txData t = some b := by
  obtain ⟨hl, hoff⟩ := txValid_iff.1 (txValid_of_txData hb)
  have howned : s.owner ≠ .none := by rintro ho; simp [ho] at hoff
  cases e with
  | txMid | txLast | txSync => exact absurd rfl hi
  | initTakes hu | startTakes hu => rw [hl] at hu; cases hu
  | put _ hf => exact h.txData_putResult hf _ hb
  | rxPass hp | timeoutPass hp =>
    obtain ⟨-, hst, hrem⟩ := passPossible_iff.1 hp
    simp [h.sync.owns.2 hst, hrem] at hoff
  | deqGranted _ _ hg => exact absurd (tryGranted_iff.1 hg).1 howned
  | acquired hr => exact absurd (syncReady_iff.1 hr).2.2 howned
  | _ => apply txData_congr hb <;> simp

/-- Settles O29: an enabled TX_BYTE emits the offered byte, and the offer is stable. -/
theorem offeredByteIsStable : Obligations.OfferedByteIsStable := by
  refine ⟨fun s b h => ⟨fun hb => ?_, ?_⟩, fun s h => ⟨fun hv => ?_, ?_⟩, fun i s t b h hi hb he => ?_⟩
  · have hv := txValid_of_txData hb
    obtain ⟨b', t, hb', ht, hout⟩ := h.txByte_emits hv
    rw [hb] at hb'
    cases hb'
    exact ⟨hv, t, ht, hout⟩
  · rintro ⟨hv, t, ht, hout⟩
    obtain ⟨b', hb', hout'⟩ := (exec_effect ht).emits_txData hv
    have heq : b' = b := by simpa [hout] using hout'.symm
    rw [hb', heq]
  · obtain ⟨b, -, hb, -⟩ := h.txByte_emits hv
    exact ⟨b, hb⟩
  · rintro ⟨b, hb⟩
    exact txValid_of_txData hb
  · exact h.txData_stable hi hb (exec_effect he)

end Sys2Proof.Machine
end

section
/-! SUPPORT. A clock edge as performed operations (R205): an operation enabled before the edge is still enabled when its
turn comes, and one that is not enabled then is held and leaves the state alone. -/

namespace Sys2Proof.Machine

variable {i j : Instr} {s t : State}

/-! ## Guards along a cycle -/

/-- No resync is under way outside ACTIVE (R170, R203). -/
theorem Legal.synced_of_not_active (h : Legal s) (hl : s.lstate ≠ .active) : s.syncState = .synced :=
  congrArg State.syncState (h.dormant hl)

/-- A register read and a control command do not make SYNC_ACQ enabled, and leave it enabled (R102). -/
theorem Legal.syncReady_before (h : Legal s) (hi : cycleRank i < 2) (e : Effect i s t) :
    syncReady t = true ↔ syncReady s = true := by
  cases e with
  | held | initIgnored | startIgnored | read => rfl
  | initTakes hl | startTakes hl =>
    have hsync := h.synced_of_not_active (by simp [hl])
    simp [syncReady_iff, hsync]
  | _ => simp [cycleRank] at hi

theorem Legal.txValid_stable (h : Legal s) (hi : i ≠ .txByte) (e : Effect i s t) (hv : txValid s = true) :
    txValid t = true := by
  obtain ⟨b, -, hb, -⟩ := h.txByte_emits hv
  exact txValid_of_txData (h.txData_stable hi hb e)

/-- The operations before the receiver's in a cycle leave rx_ready up (R160). -/
theorem Legal.rxReady_before (h : Legal s) (hi : cycleRank i < 4) (e : Effect i s t) (hr : rxReady s = true) :
    rxReady t = true := by
  have hready : s.syncState = .synced ∨ (s.syncState = .resync ∧ s.syncTxRem = 0) :=
    (rxReady_iff.1 hr).elim (fun hl => .inl (h.synced_of_not_active hl)) id
  refine rxReady_iff.2 (.inr ?_)
  cases e with
  | acquired ha => simp [(syncReady_iff.1 ha).2.1] at hready
  | txSync _ _ hrem => exact hready.imp_right fun ⟨_, h0⟩ => by simp [h0] at hrem
  | rxDiscard | rxMid | rxGood | rxBad | rxPass | timeoutPass | deqGranted | deqLost | put => simp [cycleRank] at hi
  | _ => simpa using hready

/-- The operations before TIMEOUT in a cycle leave a pass possible (R122, R126). -/
theorem passPossible_before (hi : cycleRank i < 4) (e : Effect i s t) (hp : passPossible s = true) :
    passPossible t = true := by
  obtain ⟨hl, hst, hrem⟩ := passPossible_iff.1 hp
  refine passPossible_iff.2 ⟨e.stays_active hl, ?_⟩
  cases e with
  | acquired ha => rw [(syncReady_iff.1 ha).2.1] at hst; cases hst
  | txSync _ _ hpos => simp [hrem] at hpos
  | rxDiscard | rxMid | rxGood | rxBad | rxPass | timeoutPass | deqGranted | deqLost | put => simp [cycleRank] at hi
  | _ => exact ⟨by simpa using hst, by simpa using hrem⟩

/-- The operations before SND_DEQ in a cycle leave it enabled (R150). -/
theorem sndReady_before (hi : cycleRank i < 5) (e : Effect i s t) (hr : sndReady s = true) : sndReady t = true := by
  obtain ⟨hl, hidle, hpos⟩ := sndReady_iff.1 hr
  refine sndReady_iff.2 ⟨e.stays_active hl, ?_⟩
  cases e with
  | txMid _ _ hst | txLast _ _ hst => rw [hidle] at hst; cases hst
  | deqGranted | deqLost | put => simp [cycleRank] at hi
  | _ => exact ⟨by simpa using hidle, by simpa using hpos⟩

/-- The operations before PUT_FRAME in a cycle only free slots (R66, R140). -/
theorem putReady_before (hi : cycleRank i < 6) (e : Effect i s t) (hr : putReady s = true) : putReady t = true := by
  obtain ⟨hl, hpos⟩ := putReady_iff.1 hr
  refine putReady_iff.2 ⟨e.stays_active hl, ?_⟩
  cases e with
  | deqLost | txLast => simp
  | put => simp [cycleRank] at hi
  | _ => simpa using hpos

/-- An operation stays enabled through those before it in R205's order. -/
theorem Legal.enabled_before (h : Legal s) (hij : cycleRank i < cycleRank j) (he : exec i s = .next t)
    (hen : enabled j s = true) : enabled j t = true := by
  have e := exec_effect he
  cases j with
  | init | start | regRead a => rfl
  | syncAcq => exact (h.syncReady_before hij e).2 hen
  | txByte => exact h.txValid_stable (by rintro rfl; exact lt_irrefl _ hij) e hen
  | rxByte b => exact h.rxReady_before hij e hen
  | timeout => exact passPossible_before hij e hen
  | sndDeq => exact sndReady_before hij e hen
  | putFrame d => exact putReady_before hij e hen

/-- Operations run in R205's order are performed where they are enabled and held where they are not: those enabled at
the start are all performed, and SYNC_ACQ only if it is one of them. -/
theorem Legal.performedAll_of_execAll {is : List Instr} (h : Legal s)
    (hrank : is.Pairwise (fun i j => cycleRank i < cycleRank j)) (he : execAll is s = .next t) :
    ∃ js, PerformedAll js s t ∧ js.Sublist is ∧ (∀ j ∈ is, enabled j s = true → j ∈ js) ∧
      (.syncAcq ∈ js → syncReady s = true) := by
  induction is generalizing s with
  | nil => cases he; exact ⟨[], rfl, List.Sublist.refl _, by simp, by simp⟩
  | cons i is ih =>
    obtain ⟨u, hu, ht⟩ := execAll_cons.1 he
    obtain ⟨hlt, hrank⟩ := List.pairwise_cons.1 hrank
    obtain ⟨js, hperf, hsub, hall, hacq⟩ := ih (h.of_exec hu) hrank ht
    have hall' : ∀ j ∈ is, enabled j s = true → j ∈ js := fun j hj hen =>
      hall j hj (h.enabled_before (hlt j hj) hu hen)
    have hacq' : .syncAcq ∈ js → syncReady s = true := fun hj =>
      (h.syncReady_before (hlt _ (hsub.subset hj)) (exec_effect hu)).1 (hacq hj)
    cases hen : enabled i s with
    | true =>
      refine ⟨i :: js, ⟨u, ⟨hen, hu⟩, hperf⟩, hsub.cons_cons i, fun j hj hj' => ?_, fun hj => ?_⟩
      · exact (List.mem_cons.1 hj).elim (fun hji => by simp [hji]) fun hj => List.mem_cons_of_mem _ (hall' j hj hj')
      · exact (List.mem_cons.1 hj).elim (fun hji => by rwa [← hji] at hen) hacq'
    | false =>
      have hus : u = s := by simpa [heldOperationChangesNothing i s hen] using hu.symm
      refine ⟨js, hus ▸ hperf, hsub.cons i, fun j hj hj' => ?_, hacq'⟩
      obtain rfl | hj := List.mem_cons.1 hj
      · rw [hen] at hj'; cases hj'
      · exact hall' j hj hj'

/-! ## One edge -/

@[simp] theorem enabled_setTimer (i : Instr) (s : State) (n : Nat) : enabled i (s.setTimer n) = enabled i s := by
  cases i <;> rfl

/-- The timer expires in a cycle without a received byte in which a pass is possible and the count is reached (R127); a
byte presented while a pass is possible is a transfer. -/
theorem timeout_mem_cycleOps {c : ClockCycle} : .timeout ∈ cycleOps c s ↔
    c.rxValid = false ∧ enabled .timeout s = true ∧ s.cfg.byteTimeoutCycles ≤ s.byteTimer + 1 := by
  have hmem : .timeout ∈ cycleOps c s ↔ rxXfer c s = false ∧ timerExpires c s = true := by simp [mem_cycleOps]
  have hready : passPossible s = true → rxReady s = true := fun hp =>
    rxReady_iff.2 (.inr (.inr (passPossible_iff.1 hp).2))
  rw [hmem]
  cases hp : passPossible s with
  | false => simp [timerExpires, enabled, hp]
  | true => simp [timerExpires, enabled, hp, rxXfer, hready hp]

/-- Every operation of a cycle but the two engines' is enabled before the edge (R27, R127). -/
theorem enabled_of_mem_cycleOps {c : ClockCycle} (hj : j ∈ cycleOps c s) (hacq : j ≠ .syncAcq) (hdeq : j ≠ .sndDeq) :
    enabled j s = true := by
  cases j with
  | init | start | regRead a => rfl
  | syncAcq => exact absurd rfl hacq
  | sndDeq => exact absurd rfl hdeq
  | timeout => exact (timeout_mem_cycleOps.1 hj).2.1
  | txByte =>
    have hx : txXfer c s = true := by simpa [mem_cycleOps] using hj
    exact (Bool.and_eq_true_iff.1 hx).2
  | rxByte b =>
    have hx : rxXfer c s = true ∧ b = c.rxData := by simpa [mem_cycleOps] using hj
    exact (Bool.and_eq_true_iff.1 hx.1).2
  | putFrame d =>
    have hx : putXfer c s = true ∧ d = c.putData := by simpa [mem_cycleOps] using hj
    exact (Bool.and_eq_true_iff.1 hx.1).2

/-- Settles O56: the performed operations are those of `cycleOps` but an engine's operation that is not enabled when its
turn comes. -/
theorem clockEdgeIsLabelledSteps : Obligations.ClockEdgeIsLabelledSteps := by
  intro c s h hr
  obtain ⟨t, ht⟩ := h.clockEdge_completes c
  have hrun := ht
  rw [clockEdge_of_running hr] at hrun
  obtain ⟨js, hperf, hsub, hall, hacq⟩ := (h.setTimer c).performedAll_of_execAll (cycleOps_ranked c s) hrun
  simp only [enabled_setTimer] at hall
  have hmem : ∀ j, j ≠ .syncAcq → j ≠ .sndDeq → (j ∈ js ↔ j ∈ cycleOps c s) := fun j h₁ h₂ =>
    ⟨fun hj => hsub.subset hj, fun hj => hall j hj (enabled_of_mem_cycleOps hj h₁ h₂)⟩
  refine ⟨js, t, ht, hperf, (cycleOps_ranked c s).sublist hsub, fun a => ?_, ?_, ?_, ⟨fun hj => ⟨?_, hacq hj⟩, ?_⟩, ?_,
    fun b => ?_, ?_, fun hj => ?_, fun hgo hen => ?_, fun d => ?_⟩
  · simp [hmem, mem_cycleOps]
  · simp [hmem, mem_cycleOps]
  · simp [hmem, mem_cycleOps]
  · simpa [mem_cycleOps] using hsub.subset hj
  · rintro ⟨hgo, hen⟩
    exact hall _ (by simp [mem_cycleOps, hgo]) hen
  · simp [hmem, mem_cycleOps, txXfer, enabled]
  · simp [hmem, mem_cycleOps, rxXfer, enabled, and_comm, and_left_comm]
  · rw [hmem _ (by simp) (by simp), timeout_mem_cycleOps]
  · simpa [mem_cycleOps] using hsub.subset hj
  · exact hall _ (by simp [mem_cycleOps, hgo]) hen
  · simp [hmem, mem_cycleOps, putXfer, enabled, and_comm, and_left_comm]

end Sys2Proof.Machine
end

section
/-! SUPPORT. The slots (R64 to R66): which operations move one, that each finds the slots where it looks for them, and that no
FIFO primitive faults. -/

namespace Sys2Proof.Machine

variable {i : Instr} {s t : State} {f : Fault}

/-! ## PUT_FRAME and SND_DEQ on conserved slots -/

/-- PUT_FRAME with a free slot and room in FILLED_Q (R140). -/
theorem exec_putFrame {v : SlotIx} {q : List SlotIx} (hl : s.lstate = .active) (hf : s.freeQ = v :: q)
    (hv : v.toNat < s.cfg.nSlots) (hroom : s.filledQ.length < s.cfg.nSlots) (hnew : v ∉ s.filledQ) (d : PutData) :
    exec (.putFrame d) s = .next (putResult s d v q) := by
  have hr : putReady s = true := putReady_iff.2 ⟨hl, by simp [hf]⟩
  rw [exec, execPutFrame, if_pos hr]
  exact finish_eq_next.2 (putFrameBody_eq_ok.2 ⟨v, q, hf, slotAddr_le hv, hroom, hnew, rfl⟩)

theorem Conserved.exec_putFrame (h : Conserved s) {v : SlotIx} {q : List SlotIx} (hl : s.lstate = .active)
    (hf : s.freeQ = v :: q) (d : PutData) : exec (.putFrame d) s = .next (putResult s d v q) := by
  obtain ⟨hv, hroom, hnew⟩ := h.acquire hf
  exact Machine.exec_putFrame hl hf hv hroom (fun hc => hnew (List.mem_append_left _ hc)) d

/-- Conservation alone carries SND_DEQ through: a dequeued slot is taken by the sender or finds room in FREE_Q (R150). -/
theorem Conserved.exists_sndDeqBody (h : Conserved s) (hr : sndReady s = true) : ∃ t, sndDeqBody s = .ok t := by
  obtain ⟨v, q, hq⟩ := List.exists_cons_of_length_pos (sndReady_iff.1 hr).2.2
  cases hg : tryGranted s with
  | true => exact ⟨_, sndDeqBody_eq_ok.2 ⟨v, q, hq, .inl ⟨hg, rfl⟩⟩⟩
  | false =>
    obtain ⟨-, hroom, hnew⟩ := h.release (v := v) (by simp [hq])
    exact ⟨_, sndDeqBody_eq_ok.2 ⟨v, q, hq, .inr ⟨hg, hroom, hnew, rfl⟩⟩⟩

/-! ## The faults an operation can raise -/

/-- The faults of `push` and `pop` (R6). -/
def Fault.ofFifo : Fault → Bool
  | .fifoEmpty | .fifoFull | .slotIndexTwice => true
  | .unwrittenSlotByte | .slotAddress | .unwrittenRxByte | .rxBufIndex => false

theorem finish_eq_fault {e : Except Fault State} : finish e = .fault f ↔ e = .error f := by
  cases e <;> simp [finish]

theorem memRead_error {a : Nat} (h : memRead a s = .error f) : f.ofFifo = false := by
  unfold memRead at h
  split at h
  · split at h <;> cases h
    rfl
  · cases h; rfl

/-- The slot in transmission finds room in FREE_Q, so the sender's TX_BYTE faults only where its read does (R104). -/
theorem Conserved.txSenderByte_error (h : Conserved s) (hst : s.sndState = .tx) (he : txSenderByte s = .error f) :
    memRead (slotAddr s.sndSlot s.sndIdx.toNat) s = .error f := by
  cases hr : memRead (slotAddr s.sndSlot s.sndIdx.toNat) s with
  | error g =>
    rw [txSenderByte, hr] at he
    cases he; rfl
  | ok b =>
    obtain ⟨haddr, hb⟩ := memRead_eq_ok.1 hr
    obtain ⟨-, hroom, hnew⟩ := h.release (v := s.sndSlot) (by simp [inFlight, hst])
    have hok : ∃ t, txSenderByte s = .ok t := by
      by_cases h14 : s.sndIdx = 14
      · exact ⟨_, txSenderByte_eq_ok.2 ⟨b, haddr, hb, .inr ⟨h14, hroom, hnew, rfl⟩⟩⟩
      · exact ⟨_, txSenderByte_eq_ok.2 ⟨b, haddr, hb, .inl ⟨h14, rfl⟩⟩⟩
    obtain ⟨t, ht⟩ := hok
    rw [ht] at he; cases he

theorem checkFrame_error (h : checkFrame s = .error f) : f = .unwrittenRxByte := by
  unfold checkFrame readFrame at h
  cases hr : s.rxBuf.readBytes 0 frameSize with
  | none => rw [hr] at h; cases h; rfl
  | some g =>
    rw [hr] at h
    cases hv : verify s.cfg.checksumAlg g <;> simp [bind, Except.bind, pure, Except.pure, hv] at h

/-- Frame assembly faults only on RX_BUF (R161). -/
theorem rxFrameByte_error {b : Byte} (h : rxFrameByte b s = .error f) : f.ofFifo = false := by
  unfold rxFrameByte rxStore at h
  by_cases hlt : s.rxCnt.toNat < frameSize
  · by_cases hmid : s.rxCnt.toNat < bodySize
    · simp [bind, Except.bind, pure, Except.pure, hlt, hmid] at h
    · simp only [bind, Except.bind, hlt, hmid, if_true, if_false, State.rxPut_rxCnt] at h
      rw [checkFrame_error h]; rfl
  · rw [if_neg hlt] at h; cases h; rfl

/-- With the slots conserved no operation raises a FIFO fault (R65). -/
theorem Conserved.exec_fault (h : Conserved s) (he : exec i s = .fault f) : f.ofFifo = false := by
  cases i with
  | init | start | regRead a => cases he
  | timeout =>
    rw [exec, execTimeout] at he
    split at he <;> cases he
  | syncAcq =>
    rw [exec, execSyncAcq] at he
    split at he <;> cases he
  | putFrame d =>
    cases hr : putReady s with
    | false => rw [heldOperationChangesNothing (.putFrame d) s hr] at he; cases he
    | true =>
      obtain ⟨hl, hpos⟩ := putReady_iff.1 hr
      obtain ⟨v, q, hf⟩ := List.exists_cons_of_length_pos hpos
      rw [h.exec_putFrame hl hf] at he; cases he
  | sndDeq =>
    rw [exec, execSndDeq] at he
    split at he
    · obtain ⟨t, ht⟩ := h.exists_sndDeqBody ‹_›
      rw [ht] at he; cases he
    · cases he
  | txByte =>
    rw [exec, execTxByte] at he
    split at he
    · rename_i hv
      split at he
      · rename_i ho
        have hst : s.sndState = .tx := by simpa [ho] using (txValid_iff.1 hv).2
        exact memRead_error (h.txSenderByte_error hst (finish_eq_fault.1 he))
      · cases he
    · cases he
  | rxByte b =>
    rw [exec, execRxByte] at he
    split at he
    · split at he
      · cases he
      · split at he
        · exact rxFrameByte_error (finish_eq_fault.1 he)
        · cases he
    · cases he

/-! ## Steps -/

/-- Operations performed one after another fault where one of them does, in a state with every property they keep. -/
theorem execAll_fault {P : State → Prop} (hexec : ∀ i s t, P s → exec i s = .next t → P t) {is : List Instr}
    (hs : P s) (h : execAll is s = .fault f) : ∃ i u, P u ∧ exec i u = .fault f := by
  induction is generalizing s with
  | nil => cases h
  | cons i is ih =>
    rw [execAll] at h
    cases he : exec i s with
    | next u => rw [he] at h; exact ih (hexec i s u hs he) h
    | fault g => rw [he] at h; cases h; exact ⟨i, s, hs, he⟩
    | refused r => rw [he] at h; cases h

/-- A step faults where an operation does, in a state with every property that the operations, a new schedule and the
timer's update keep. -/
theorem step_fault {P : State → Prop} (hinputs : ∀ s l, P s → P (s.setInputs l))
    (htimer : ∀ c s, P s → P (s.setTimer (nextTimer c s))) (hexec : ∀ i s t, P s → exec i s = .next t → P t)
    (hs : P s) (h : step s = .fault f) : ∃ i u, P u ∧ exec i u = .fault f := by
  cases hw : s.cfg.wf with
  | false => rw [step_of_illegal_config hw] at h; cases h
  | true =>
    cases hi : s.inputs with
    | nil => rw [step_of_inputs_nil hw hi] at h; cases h
    | cons x rest =>
      rw [step_of_inputs_cons hw hi] at h
      have hs' := hinputs s rest hs
      cases x with
      | label l =>
        cases hd : decode l with
        | error e => rw [runInput_label_error hd] at h; cases h
        | ok i => rw [runInput_label_ok hd] at h; exact ⟨i, _, hs', h⟩
      | cycle c =>
        rw [runInput] at h
        cases hr : c.rstN with
        | false => rw [clockEdge_of_reset hr] at h; cases h
        | true => rw [clockEdge_of_running hr] at h; exact execAll_fault hexec (htimer c _ hs') h

theorem Conserved.setInputs (h : Conserved s) (l : List Input) : Conserved (s.setInputs l) := by
  apply h.congr <;> simp

theorem Conserved.setTimer (h : Conserved s) (n : Nat) : Conserved (s.setTimer n) := by
  apply h.congr <;> simp

theorem Conserved.of_exec (h : Conserved s) (he : exec i s = .next t) : Conserved t :=
  (exec_effect he).keeps_conserved h

/-- Every step keeps the slots conserved; that a reset does needs the configuration, which `step` checks (R4). -/
theorem Conserved.of_step (h : Conserved s) (hst : step s = .next t) : Conserved t := by
  obtain ⟨hw, -⟩ := step_cases hst
  have hkept : Conserved t ∧ t.cfg.wf = true := by
    refine step_keeps (P := fun u => Conserved u ∧ u.cfg.wf = true) ?_ ?_ ?_ ?_ ⟨h, hw⟩ hst
    · exact fun u l hu => ⟨hu.1.setInputs l, hu.2⟩
    · exact fun c u hu => ⟨hu.1.setTimer _, hu.2⟩
    · exact fun u hu => ⟨(Conserved.resetWith hu.2).setInputs _, hu.2⟩
    · exact fun i u v hu he => ⟨hu.1.of_exec he, by rw [exec_cfg he]; exact hu.2⟩
  exact hkept.1

theorem Conserved.step_fault (h : Conserved s) (hst : step s = .fault f) : f.ofFifo = false := by
  obtain ⟨i, u, hu, he⟩ := Machine.step_fault (P := Conserved) (fun _ l hs => hs.setInputs l)
    (fun _ _ hs => hs.setTimer _) (fun _ _ _ hs he => hs.of_exec he) h hst
  exact hu.exec_fault he

/-- Settles O24: operations, a new schedule, the timer's update and a reset keep the slots conserved, and on conserved slots
an operation faults only on a byte it reads. -/
theorem slotsConserved : Obligations.SlotsConserved := by
  refine fun s h => ⟨fun t => h.of_step, fun hf => ?_, fun hf => ?_, fun hf => ?_⟩ <;> cases h.step_fault hf

/-! ## Slots moved and frames kept -/

/-- Settles O23: the cases of `Effect` that write a FIFO or the sender's slot. -/
theorem slotsMoveOnlyAsRuled : Obligations.SlotsMoveOnlyAsRuled := by
  intro i s t he
  cases exec_effect he with
  | @put d v q _ _ hf => exact .inr (.inl ⟨d, v, rfl, by simp [hf], by simp, by simp⟩)
  | @deqGranted v q _ hr hf hg =>
    have hidle := (sndReady_iff.1 hr).2.1
    exact .inr (.inr (.inl ⟨v, rfl, hg, by simp [hf], by simp, by simp [inFlight, hidle], by simp [inFlight]⟩))
  | @deqLost v q _ _ hf hg =>
    exact .inr (.inr (.inr (.inl ⟨v, rfl, hg, by simp [hf], by simp, inFlight_congr rfl rfl⟩)))
  | txLast _ _ hst _ _ h14 =>
    exact .inr (.inr (.inr (.inr ⟨s.sndSlot, rfl, h14, by simp [inFlight, hst], by simp [inFlight], by simp, by simp⟩)))
  | _ => exact .inl ⟨by simp, by simp, inFlight_congr (by simp) (by simp)⟩

/-- Settles O26: only a PUT_FRAME writes the slot store, and only the slot it takes from FREE_Q. -/
theorem queuedFramesUnchanged : Obligations.QueuedFramesUnchanged := by
  intro i s t h he w hw
  cases exec_effect he with
  | @put d v q _ _ hf =>
    have hne : w ≠ v := fun hc => (h.acquire hf).2.2 (hc ▸ hw)
    exact slotFrame_putResult_of_ne s d q hne
  | _ => simp [slotFrame]

/-! ## PUT_FRAME's result -/

/-- Body byte i is `put_data[8i+7:8i]` (R52). -/
theorem bodyByte_eq_ofNat (d : PutData) (i : Nat) : bodyByte d i = BitVec.ofNat 8 (d.toNat / 2 ^ (8 * i)) := by
  rw [bodyByte, BitVec.extractLsb', Nat.shiftRight_eq_div_pow]

theorem stamp_getElem?_of_lt (alg : ChecksumAlg) (d : PutData) {i : Nat} (hi : i < 14) :
    (stamp alg (bodyBytes d))[i]? = some (bodyByte d i) := by
  rw [stamp, List.getElem?_append_left (by simpa using hi)]
  simp [bodyBytes, bodySize, hi]

theorem stamp_getElem?_checksum (alg : ChecksumAlg) (d : PutData) :
    (stamp alg (bodyBytes d))[14]? = some (chk alg (bodyBytes d)) := by
  rw [stamp, List.getElem?_append_right (by simp)]
  simp

/-- Byte i of the slot a PUT_FRAME fills is byte i of the stamped body (R50, R91). -/
theorem putResult_read_slot (s : State) (d : PutData) (v : SlotIx) (q : List SlotIx) {i : Nat} (hi : i < 15) :
    (putResult s d v q).slots.read (v.toNat * 15 + i) = (stamp s.cfg.checksumAlg (bodyBytes d))[i]? :=
  (Memory.readBytes_eq_some.1 (slotFrame_putResult_self s d v q)).2 i hi

/-- A PUT_FRAME leaves every address outside the slot it fills (R50). -/
theorem putResult_read_outside (s : State) (d : PutData) (v : SlotIx) (q : List SlotIx) {a : Nat}
    (ha : a < v.toNat * 15 ∨ v.toNat * 15 + 15 ≤ a) : (putResult s d v q).slots.read a = s.slots.read a := by
  rw [putResult_slots, Memory.read_writeBytes, if_neg]
  rw [stamp_length, slotAddr, frameSize]
  omega

/-- A PUT_FRAME writes the two FIFOs and the slot store (R140). -/
theorem putResult_eq (s : State) (d : PutData) (v : SlotIx) (q : List SlotIx) : putResult s d v q =
    { s with freeQ := q, filledQ := s.filledQ ++ [v], slots := (putResult s d v q).slots } := by
  simp only [putResult, State.setFreeQ, State.storeSlots, State.setFilledQ]

/-- Settles O20, by what the slot store reads after the stamped body is written. -/
theorem putFrameStoresStampedFrame : Obligations.PutFrameStoresStampedFrame := by
  refine fun d s => ⟨putReady_iff, fun v q hl hf hv hroom hnew => ⟨(putResult s d v q).slots, ?_, fun i hi => ?_, ?_,
    fun a ha => putResult_read_outside s d v q ha, fun hw => ?_⟩⟩
  · exact (exec_putFrame hl hf hv hroom hnew d).trans (congrArg _ (putResult_eq s d v q))
  · rw [putResult_read_slot s d v q (hi.trans (by decide)), stamp_getElem?_of_lt _ d hi, bodyByte_eq_ofNat]
  · rw [putResult_read_slot s d v q (by decide), stamp_getElem?_checksum]
  · rw [putResult_slots]
    exact Memory.wf_writeBytes hw _ _

/-- Settles O22, by induction on the bodies: each takes the head of FREE_Q to the tail of FILLED_Q. -/
theorem freeSlotsBoundAcceptedBodies : Obligations.FreeSlotsBoundAcceptedBodies := by
  intro ds s h hl hlen
  induction ds generalizing s with
  | nil =>
    have hf : s.freeQ = [] := List.length_eq_zero_iff.1 hlen.symm
    exact ⟨s, rfl, hf, by simp [hf], by simp [putReady, hf], hl, rfl, rfl, rfl⟩
  | cons d ds ih =>
    obtain ⟨v, q, hf⟩ := List.exists_cons_of_length_eq_add_one hlen.symm
    have he := h.exec_putFrame hl hf d
    have hlen' : ds.length = (putResult s d v q).freeQ.length := by simpa [hf] using hlen
    obtain ⟨t, ht, hfree, hfilled, hready, hlt, hstats, howner, hout⟩ :=
      ih (putResult s d v q) (h.of_exec he) (by simpa using hl) hlen'
    refine ⟨t, execAll_cons.2 ⟨_, he, ht⟩, hfree, ?_, hready, hlt, ?_, ?_, ?_⟩
    · simpa [hf] using hfilled
    · simpa using hstats
    · simpa using howner
    · simpa using hout

end Sys2Proof.Machine
end

section
/-! SUPPORT. Labels written out (R72, R77), and the SyncFrame against the checksum (R95). -/

namespace Sys2Proof.Machine

/-- Settles O3: each line is the encoding of the operation it decodes to. -/
theorem specWordsDecode : Obligations.SpecWordsDecode :=
  ⟨decode_encode .init, decode_encode .start, decode_encode (.putFrame 0x2211111111111111111111110500),
    decode_encode (.regRead 0x28), decode_encode (.rxByte 0xFF), decode_encode .txByte, decode_encode .timeout,
    decode_encode .sndDeq, decode_encode .syncAcq⟩

/-- Fourteen bytes 0xFF have checksum 0x00 or 0xF2, not 0xFF (R95). -/
theorem verify_syncFrame (alg : ChecksumAlg) : verify alg syncFrame = false := by
  cases alg <;> decide

/-- Settles O49: a stamped body verifies and the SyncFrame does not. -/
theorem syncFrameNeverVerifies : Obligations.SyncFrameNeverVerifies := by
  refine fun alg => ⟨verify_syncFrame alg, fun body hl hc => ?_⟩
  have hv := verify_stamp alg hl
  rw [hc, verify_syncFrame] at hv
  cases hv

end Sys2Proof.Machine
end

section
/-! SUPPORT. The fields of a label as arithmetic (R70), and that a 14-byte operand is the body of one put_data (R52, R76). -/

namespace Sys2Proof

theorem opcOf_toNat (l : Label) : (opcOf l).toNat = l.toNat / 4096 := by
  have := l.isLt
  simp only [opcOf, BitVec.extractLsb'_toNat, Nat.shiftRight_eq_div_pow]
  omega

theorem fieldA_toNat (l : Label) : (fieldA l).toNat = l.toNat / 256 % 16 := by
  simp only [fieldA, BitVec.extractLsb'_toNat, Nat.shiftRight_eq_div_pow, Nat.reducePow]

theorem fieldD_toNat (l : Label) : (fieldD l).toNat = l.toNat % 256 := by
  simp only [fieldD, BitVec.extractLsb'_toNat, Nat.shiftRight_zero, Nat.reducePow]

/-- A label has no bit outside its three fields (R70). -/
theorem label_eq_of_fields {l m : Label} (ho : opcOf l = opcOf m) (ha : fieldA l = fieldA m)
    (hd : fieldD l = fieldD m) : l = m := by
  apply BitVec.eq_of_toNat_eq
  have ho := congrArg BitVec.toNat ho
  have ha := congrArg BitVec.toNat ha
  have hd := congrArg BitVec.toNat hd
  rw [opcOf_toNat, opcOf_toNat] at ho
  rw [fieldA_toNat, fieldA_toNat] at ha
  rw [fieldD_toNat, fieldD_toNat] at hd
  omega

theorem packBytes_lt (bs : List Byte) : packBytes bs < 256 ^ bs.length := by
  induction bs with
  | nil => simp [packBytes]
  | cons b bs ih =>
    have := b.isLt
    rw [packBytes, List.length_cons, Nat.pow_succ]
    omega

theorem packBytes_inj {bs cs : List Byte} (hl : bs.length = cs.length) (h : packBytes bs = packBytes cs) : bs = cs := by
  induction bs generalizing cs with
  | nil => exact (List.length_eq_zero_iff.1 hl.symm).symm
  | cons b bs ih =>
    cases cs with
    | nil => cases hl
    | cons c cs =>
      have := b.isLt
      have := c.isLt
      simp only [packBytes] at h
      have hhead : b = c := BitVec.eq_of_toNat_eq (by omega)
      rw [hhead, ih (Nat.succ.inj hl) (by omega)]

/-- Fourteen bytes are the body of the put_data they pack to (R52, R71). -/
theorem bodyBytes_putDataOf {bs : List Byte} (hl : bs.length = bodySize) : bodyBytes (putDataOf bs) = bs := by
  have hlt := packBytes_lt bs
  rw [hl, bodySize] at hlt
  refine packBytes_inj ((Machine.bodyBytes_length _).trans hl.symm) ?_
  calc packBytes (bodyBytes (putDataOf bs))
      = packBytes bs % 2 ^ 112 % 256 ^ bodySize := by
        rw [bodyBytes, packBytes_bodyBytes, putDataOf, BitVec.toNat_ofNat]
    _ = packBytes bs := by rw [bodySize]; omega

end Sys2Proof
end

section
/-! SUPPORT. What the decoder answers to any trace line: the operation the line encodes, or the check that the line fails
(R72, R74, R76). Then the statements on the encoding. -/

namespace Sys2Proof

/-- The label is one that R70 and R72 define, whatever operand follows it. -/
def TraceLine.LabelDefined (t : TraceLine) : Prop :=
  t.opcDefined = true ∧ t.aZero = true ∧ t.dLegal = true

/-- An answer of the decoder that is right about the line: an accepted line is the operation's encoding, and a refusal
names a check that the line fails. -/
def TraceLine.Answer (t : TraceLine) : Except DecodeError Instr → Prop
  | .ok i => encode i = t
  | .error .reservedOpcode => t.opcDefined = false
  | .error .reservedA => t.aZero = false
  | .error .reservedD => t.dLegal = false
  | .error .operandLength => t.LabelDefined ∧ t.operandFits = false

theorem TraceLine.wf_iff {t : TraceLine} : t.wf = true ↔ t.LabelDefined ∧ t.operandFits = true := by
  simp only [wf, LabelDefined, Bool.and_eq_true, and_assoc]

theorem encodedLabel (i : Instr) : Laws.EncodedLabel.Statement i := by
  cases i with
  | init => exact Laws.EncodedLabel.init
  | start => exact Laws.EncodedLabel.start
  | putFrame d => exact Laws.EncodedLabel.putFrame d
  | regRead a => exact Laws.EncodedLabel.regRead a
  | rxByte b => exact Laws.EncodedLabel.rxByte b
  | txByte => exact Laws.EncodedLabel.txByte
  | timeout => exact Laws.EncodedLabel.timeout
  | sndDeq => exact Laws.EncodedLabel.sndDeq
  | syncAcq => exact Laws.EncodedLabel.syncAcq

/-- R72 in the label's field OPC. -/
theorem TraceLine.opcDefined_iff {t : TraceLine} :
    t.opcDefined = true ↔ 1 ≤ (opcOf t.label).toNat ∧ (opcOf t.label).toNat ≤ 9 := by
  rw [opcOf_toNat, opcDefined, Bool.and_eq_true, decide_eq_true_iff, decide_eq_true_iff]

/-- R70 in the label's field A. -/
theorem TraceLine.aZero_iff {t : TraceLine} : t.aZero = true ↔ fieldA t.label = 0 := by
  rw [← BitVec.toNat_inj, fieldA_toNat, aZero, decide_eq_true_iff]
  rfl

/-- R70 in the label's field D. -/
theorem TraceLine.dLegal_iff {t : TraceLine} :
    t.dLegal = true ↔ opcOf t.label = 4 ∨ opcOf t.label = 5 ∨ fieldD t.label = 0 := by
  simp only [dLegal, ← BitVec.toNat_inj, opcOf_toNat, fieldD_toNat, Bool.or_eq_true, decide_eq_true_iff, or_assoc]
  rfl

/-- R76 in the label's field OPC. -/
theorem TraceLine.operandFits_iff {t : TraceLine} :
    t.operandFits = true ↔ t.operand.length = if opcOf t.label = 3 then bodySize else 0 := by
  have h3 : opcOf t.label = 3 ↔ t.label.toNat / 4096 = 3 := by rw [← BitVec.toNat_inj, opcOf_toNat]; rfl
  simp only [operandFits, h3, decide_eq_true_iff]

/-- Field D of an operation's label is 0 for every operation but REG_READ and RX_BYTE (R70). -/
theorem dLegal_encode (i : Instr) : (encode i).dLegal = true := by
  rw [TraceLine.dLegal_iff]
  cases i with
  | regRead a => exact .inl (Laws.fields_append 0x40 a).1
  | rxByte b => exact .inr (.inl (Laws.fields_append 0x50 b).1)
  | putFrame d => exact .inr (.inr (show fieldD 0x3000#16 = 0 from rfl))
  | init | start | txByte | timeout | sndDeq | syncAcq => exact .inr (.inr rfl)

/-- Every encoding is a well-formed line (R70, R72, R76). -/
theorem wf_encode (i : Instr) : (encode i).wf = true := by
  obtain ⟨hlo, hhi, ha, hlen⟩ := encodedLabel i
  exact TraceLine.wf_iff.2 ⟨⟨TraceLine.opcDefined_iff.2 ⟨hlo, hhi⟩, TraceLine.aZero_iff.2 ha, dLegal_encode i⟩,
    TraceLine.operandFits_iff.2 hlen⟩

/-- A line with an operation's label is a defined label. -/
theorem TraceLine.labelDefined_of_labelOf {t : TraceLine} {i : Instr} (hl : labelOf i = t.label) : t.LabelDefined := by
  obtain ⟨⟨hopc, ha, hd⟩, -⟩ := wf_iff.1 (wf_encode i)
  have : (encode i).label = t.label := hl
  exact ⟨by rwa [opcDefined, ← this], by rwa [aZero, ← this], by rwa [dLegal, ← this]⟩

/-- With an operation's label an operand of another length than the operation's is a misfit (R76). -/
theorem TraceLine.answer_operandLength {t : TraceLine} {i : Instr} (hl : labelOf i = t.label)
    (hne : t.operand.length ≠ (operandOf i).length) : t.Answer (.error .operandLength) := by
  refine ⟨labelDefined_of_labelOf hl, Bool.eq_false_iff.2 fun hfits => hne ?_⟩
  have hlen : (operandOf i).length = if opcOf (labelOf i) = 3 then bodySize else 0 := (encodedLabel i).2.2.2
  rw [operandFits_iff.1 hfits, hlen, hl]

theorem noOperand_answer {t : TraceLine} {i : Instr} (hl : labelOf i = t.label) (hi : operandOf i = []) :
    t.Answer (noOperand t i) := by
  rw [noOperand]
  split
  next hnil => exact (congrArg₂ TraceLine.mk hl (hi.trans hnil.symm) : encode i = t)
  next hne => exact TraceLine.answer_operandLength hl (by simpa [hi] using hne)

/-- The label of an operation whose operand is not D, from the field OPC and the checks on A and D (R72). -/
theorem labelOf_eq {l : Label} {i : Instr} (ho : opcOf l = opcOf (labelOf i)) (ha : fieldA l = 0)
    (hd : fieldD l = fieldD (labelOf i)) : labelOf i = l :=
  (label_eq_of_fields ho (ha.trans (encodedLabel i).2.2.1.symm) hd).symm

theorem answer_reservedD {t : TraceLine} (h4 : opcOf t.label ≠ 4) (h5 : opcOf t.label ≠ 5) (hd : fieldD t.label ≠ 0) :
    t.Answer (.error .reservedD) := by
  refine Bool.eq_false_iff.2 fun h => ?_
  obtain h | h | h := TraceLine.dLegal_iff.1 h
  · exact h4 h
  · exact h5 h
  · exact hd h

theorem plain_answer {t : TraceLine} {i : Instr} (ho : opcOf t.label = opcOf (labelOf i)) (ha : fieldA t.label = 0)
    (hi : opcOf (labelOf i) ≠ 4 ∧ opcOf (labelOf i) ≠ 5 ∧ operandOf i = []) : t.Answer (plain t i) := by
  obtain ⟨h4, h5, hop⟩ := hi
  rw [plain]
  split
  next hd =>
    have hdi : fieldD (labelOf i) = 0 := ((TraceLine.dLegal_iff.1 (dLegal_encode i)).resolve_left h4).resolve_left h5
    exact noOperand_answer (labelOf_eq ho ha (hd.trans hdi.symm)) hop
  next hd => exact answer_reservedD (ho ▸ h4) (ho ▸ h5) hd

theorem withBody_answer {t : TraceLine} (ho : opcOf t.label = 3) (ha : fieldA t.label = 0) : t.Answer (withBody t) := by
  rw [withBody]
  split
  next hd =>
    have hl : labelOf (.putFrame (putDataOf t.operand)) = t.label :=
      labelOf_eq (i := .putFrame 0) ho ha hd
    split
    next hlen => exact (congrArg₂ TraceLine.mk hl (bodyBytes_putDataOf hlen) : encode (.putFrame _) = t)
    next hlen =>
      exact TraceLine.answer_operandLength hl fun h => hlen (h.trans (Machine.bodyBytes_length _))
  next hd => exact answer_reservedD (by rw [ho]; decide) (by rw [ho]; decide) hd

/-- The decoder's answer to every line is right, by the arms of R72's table. -/
theorem decode_answer (t : TraceLine) : t.Answer (decode t) := by
  rw [decode]
  split
  next ha => exact Bool.eq_false_iff.2 fun h => ha (TraceLine.aZero_iff.1 h)
  next ha =>
    replace ha : fieldA t.label = 0 := not_not.1 ha
    have opc {k : BitVec 4} (h : (opcOf t.label).toNat = k.toNat) : opcOf t.label = k := BitVec.eq_of_toNat_eq h
    split
    next h1 => exact plain_answer (opc h1) ha (by decide)
    next h2 => exact plain_answer (opc h2) ha (by decide)
    next h3 => exact withBody_answer (opc h3) ha
    next h4 =>
      obtain ⟨hk, -⟩ := Laws.fields_append 0x40 (fieldD t.label)
      exact noOperand_answer (labelOf_eq ((opc (k := 4) h4).trans hk.symm) ha (fieldD_append _ _).symm) rfl
    next h5 =>
      obtain ⟨hk, -⟩ := Laws.fields_append 0x50 (fieldD t.label)
      exact noOperand_answer (labelOf_eq ((opc (k := 5) h5).trans hk.symm) ha (fieldD_append _ _).symm) rfl
    next h6 => exact plain_answer (opc h6) ha (by decide)
    next h7 => exact plain_answer (opc h7) ha (by decide)
    next h8 => exact plain_answer (opc h8) ha (by decide)
    next h9 => exact plain_answer (opc h9) ha (by decide)
    next h1 h2 h3 h4 h5 h6 h7 h8 h9 =>
      refine Bool.eq_false_iff.2 fun h => ?_
      have := TraceLine.opcDefined_iff.1 h
      simp only [imp_false] at h1 h2 h3 h4 h5 h6 h7 h8 h9
      omega

/-- The decoder reads a line as an operation exactly when the line is its encoding (R70 to R72, R76). -/
theorem decode_eq_ok_iff {t : TraceLine} {i : Instr} : decode t = .ok i ↔ encode i = t := by
  refine ⟨fun h => ?_, fun h => h ▸ decode_encode i⟩
  have hans := decode_answer t
  rwa [h] at hans

theorem TraceLine.labelDefined_iff {t : TraceLine} : t.LabelDefined ↔
    1 ≤ t.label.toNat / 4096 ∧ t.label.toNat / 4096 ≤ 9 ∧ t.label.toNat / 256 % 16 = 0 ∧
      (t.label.toNat / 4096 = 4 ∨ t.label.toNat / 4096 = 5 ∨ t.label.toNat % 256 = 0) := by
  simp only [LabelDefined, opcDefined, aZero, dLegal, Bool.and_eq_true, Bool.or_eq_true, decide_eq_true_iff, and_assoc,
    or_assoc]

/-- A well-formed line passes every check, so the decoder accepts it. -/
theorem exists_decode_of_wf {t : TraceLine} (hw : t.wf = true) : ∃ i, decode t = .ok i := by
  obtain ⟨⟨hopc, ha, hd⟩, hfits⟩ := TraceLine.wf_iff.1 hw
  have hans := decode_answer t
  cases hdec : decode t with
  | ok i => exact ⟨i, rfl⟩
  | error e =>
    rw [hdec] at hans
    cases e with
    | reservedOpcode => exact absurd hopc (Bool.eq_false_iff.1 hans)
    | reservedA => exact absurd ha (Bool.eq_false_iff.1 hans)
    | reservedD => exact absurd hd (Bool.eq_false_iff.1 hans)
    | operandLength => exact absurd hfits (Bool.eq_false_iff.1 hans.2)

/-- A line whose label is not defined is refused under the name of a reserved field (R74). -/
theorem decode_of_not_labelDefined {t : TraceLine} (hr : ¬ t.LabelDefined) :
    decode t = .error .reservedOpcode ∨ decode t = .error .reservedA ∨ decode t = .error .reservedD := by
  have hans := decode_answer t
  cases hdec : decode t with
  | ok i =>
    rw [hdec] at hans
    exact absurd (TraceLine.labelDefined_of_labelOf (congrArg TraceLine.label hans)) hr
  | error e =>
    rw [hdec] at hans
    cases e with
    | reservedOpcode => exact .inl rfl
    | reservedA => exact .inr (.inl rfl)
    | reservedD => exact .inr (.inr rfl)
    | operandLength => exact absurd hans.1 hr

end Sys2Proof

namespace Sys2Proof.Machine

/-- Settles O1: the fields of each label and the 14 bytes of the body are read back as they were written. -/
theorem decodeEncodeRoundTrip : Obligations.DecodeEncodeRoundTrip :=
  decode_encode

/-- Settles O2: the decoder's answer is the operation encoded or a check that fails, and every encoding is well formed. -/
theorem decodeAcceptsExactlyDefinedLabels : Obligations.DecodeAcceptsExactlyDefinedLabels := by
  refine fun t => ⟨⟨exists_decode_of_wf, ?_⟩, fun i => decode_eq_ok_iff.1⟩
  rintro ⟨i, hi⟩
  rw [← decode_eq_ok_iff.1 hi]
  exact wf_encode i

/-- Settles O4: the label is not a defined one, so it is no operation's, and the decoder's refusal names a reserved
field. -/
theorem reservedLabelRefused : Obligations.ReservedLabelRefused := by
  intro t hres
  have hr : ¬ t.LabelDefined := by rw [TraceLine.labelDefined_iff]; omega
  refine ⟨fun i hl => hr (TraceLine.labelDefined_of_labelOf hl), fun s rest hw hi => ?_⟩
  have refused {e : DecodeError} (hd : decode t = .error e) : step s = .refused (rejection e) :=
    (step_of_inputs_cons hw hi).trans (runInput_label_error hd _)
  exact (decode_of_not_labelDefined hr).imp refused (Or.imp refused refused)

end Sys2Proof.Machine
end

section
/-! SUPPORT. The checksum unit (R90 to R94): the two folds byte by byte, and that a changed byte changes the verdict. -/

namespace Sys2Proof.Machine

/-! ## CHK a byte at a time (R90) -/

theorem chk_nil (alg : ChecksumAlg) : chk alg [] = 0 := by
  cases alg <;> rfl

theorem chk_xor8_cons (b : Byte) (bs : List Byte) : chk .xor8 (b :: bs) = b ^^^ chk .xor8 bs := by
  simp only [chk, List.foldl_eq_foldr, List.foldr_cons]

theorem chk_sum8_cons (b : Byte) (bs : List Byte) : chk .sum8 (b :: bs) = b + chk .sum8 bs := by
  simp only [chk, List.foldl_eq_foldr, List.foldr_cons]

theorem chk_sum8_toNat (bs : List Byte) : (chk .sum8 bs).toNat = (bs.map BitVec.toNat).sum % 256 := by
  induction bs with
  | nil => rfl
  | cons b bs ih => rw [chk_sum8_cons, BitVec.toNat_add, ih, List.map_cons, List.sum_cons, Nat.add_mod_mod]

theorem chk_xor8_getLsbD (bs : List Byte) (k : Nat) :
    (chk .xor8 bs).getLsbD k = decide (bs.countP (fun b => b.getLsbD k) % 2 = 1) := by
  induction bs with
  | nil => simp [chk_nil]
  | cons b bs ih =>
    rw [chk_xor8_cons, BitVec.getLsbD_xor, ih, List.countP_cons]
    cases b.getLsbD k with
    | false => simp
    | true =>
      rw [if_pos rfl, Bool.true_xor, ← decide_not, decide_eq_decide]
      omega

/-- Settles O46, by induction on the body: a byte adds its value to the sum, and its bit to that bit's parity. -/
theorem checksumIsXorOrSum : Obligations.ChecksumIsXorOrSum :=
  fun body => ⟨chk_sum8_toNat body, fun k _ => chk_xor8_getLsbD body k⟩

/-! ## One byte changed (R94) -/

theorem chk_cons_left_inj {alg : ChecksumAlg} {b c : Byte} {bs : List Byte} :
    chk alg (b :: bs) = chk alg (c :: bs) ↔ b = c := by
  cases alg with
  | xor8 => rw [chk_xor8_cons, chk_xor8_cons, BitVec.xor_left_inj]
  | sum8 => rw [chk_sum8_cons, chk_sum8_cons, BitVec.add_left_inj]

theorem chk_cons_right_inj {alg : ChecksumAlg} {b : Byte} {bs cs : List Byte} :
    chk alg (b :: bs) = chk alg (b :: cs) ↔ chk alg bs = chk alg cs := by
  cases alg with
  | xor8 => rw [chk_xor8_cons, chk_xor8_cons, BitVec.xor_right_inj]
  | sum8 => rw [chk_sum8_cons, chk_sum8_cons, BitVec.add_right_inj]

/-- A body with one byte replaced has another checksum, whichever byte it is. -/
theorem chk_set_ne {alg : ChecksumAlg} {bs : List Byte} {n : Nat} {b c : Byte} (hb : bs[n]? = some b) (hc : c ≠ b) :
    chk alg (bs.set n c) ≠ chk alg bs := by
  induction bs generalizing n with
  | nil => simp at hb
  | cons a bs ih =>
    cases n with
    | zero =>
      obtain rfl : a = b := by simpa using hb
      exact fun h => hc (chk_cons_left_inj.1 h)
    | succ n => exact fun h => ih (by simpa using hb) (chk_cons_right_inj.1 h)

theorem verify_iff {alg : ChecksumAlg} {f : List Byte} : verify alg f = true ↔ f[14]? = some (chk alg (f.take 14)) :=
  decide_eq_true_iff

/-- A frame that verifies does not verify with one of its 15 bytes replaced: a body byte changes the checksum of bytes 0 to 13,
and byte 14 is the checksum itself. -/
theorem verify_set_of_ne {alg : ChecksumAlg} {f : List Byte} {n : Nat} {b c : Byte} (hlen : f.length = 15)
    (hb : f[n]? = some b) (hc : c ≠ b) (hv : verify alg f = true) : verify alg (f.set n c) = false := by
  rw [Bool.eq_false_iff, ne_eq, verify_iff]
  rw [verify_iff] at hv
  have hn : n < 15 := hlen ▸ (List.getElem?_eq_some_iff.1 hb).1
  by_cases h14 : n = 14
  · subst h14
    rw [List.getElem?_set_self (by omega), List.take_set_of_le (Nat.le_refl _), ← hv, hb, Option.some.injEq]
    exact hc
  · rw [List.getElem?_set_ne h14, List.take_set, hv, Option.some.injEq]
    have hbody : (f.take 14)[n]? = some b := by rw [List.getElem?_take_of_lt (by omega), hb]
    exact (chk_set_ne hbody hc).symm

theorem xor_twoPow_ne {k : Nat} (hk : k < 8) (b : Byte) : b ^^^ BitVec.twoPow 8 k ≠ b := by
  intro h
  have hbit := congrArg (BitVec.getLsbD · k) h
  simp [hk] at hbit

/-- Settles O48: a flipped bit makes another byte, and a frame with one byte replaced does not verify. -/
theorem singleBitErrorDetected : Obligations.SingleBitErrorDetected :=
  fun _ _ _ _ b hlen hk hb hv => verify_set_of_ne hlen hb (xor_twoPow_ne hk b) hv

/-- Settles O47: byte 14 of the stamped frame is the checksum of the 14 bytes before it. -/
theorem stampedFrameVerifies : Obligations.StampedFrameVerifies :=
  fun alg _ hl => verify_stamp alg hl

end Sys2Proof.Machine
end

section
/-! SUPPORT. Frame assembly (R161, R162): what one received byte does in SYNCED, and a whole frame's bytes in order. -/

namespace Sys2Proof.Machine

variable {s : State}

/-- Fourteen bytes and one more verify exactly when that one is their checksum (R92). -/
theorem verify_append {alg : ChecksumAlg} {body : List Byte} (hlen : body.length = 14) (b : Byte) :
    verify alg (body ++ [b]) = true ↔ chk alg body = b := by
  rw [verify_iff, List.take_left' hlen, List.getElem?_append_right (by omega), hlen]
  simp [eq_comm]

theorem exec_rxByte_of_synced (hl : s.lstate = .active) (hs : s.syncState = .synced) (b : Byte) :
    exec (.rxByte b) s = finish (rxFrameByte b s) := by
  rw [exec, execRxByte, if_pos (rxReady_iff.2 (.inr (.inl hs))), if_neg (not_not_intro hl), if_pos hs]

theorem State.rxPut_read_self (s : State) (b : Byte) : (s.rxPut b).rxBuf.read s.rxCnt.toNat = some b := by
  rw [State.rxPut_rxBuf, Memory.read_write, if_pos rfl]

theorem State.rxPut_read_of_ne {j : Nat} (hj : j ≠ s.rxCnt.toNat) (b : Byte) :
    (s.rxPut b).rxBuf.read j = s.rxBuf.read j := by
  rw [State.rxPut_rxBuf, Memory.read_write, if_neg hj.symm]

/-- Before the fifteenth a byte is stored and RX_CNT advances (R161). -/
theorem exec_rxByte_mid (hl : s.lstate = .active) (hs : s.syncState = .synced) (hcnt : s.rxCnt.toNat < 14) (b : Byte) :
    exec (.rxByte b) s = .next (s.rxPut b).rxAdvance := by
  rw [exec_rxByte_of_synced hl hs, finish_eq_next]
  exact rxFrameByte_eq_ok.2 ⟨hcnt.trans (by decide), .inl ⟨hcnt, rfl⟩⟩

/-- With `body` received, the fifteenth byte makes RX_BUF read as `body` and that byte (R29). -/
theorem readBytes_rxPut_last {body : List Byte} (hcnt : s.rxCnt = 14) (hlen : body.length = 14)
    (hbody : ∀ j, j < 14 → s.rxBuf.read j = body[j]?) (b : Byte) :
    (s.rxPut b).rxBuf.readBytes 0 frameSize = some (body ++ [b]) := by
  refine Memory.readBytes_eq_some.2 ⟨by simp [hlen], fun j hj => ?_⟩
  have hat : s.rxCnt.toNat = 14 := by rw [hcnt]; rfl
  rw [Nat.zero_add]
  obtain hlt | rfl : j < 14 ∨ j = 14 := Nat.lt_succ_iff_lt_or_eq.1 hj
  · rw [State.rxPut_read_of_ne (by omega), hbody j hlt, List.getElem?_append_left (by omega)]
  · rw [← hat, State.rxPut_read_self, hat, ← hlen, List.getElem?_concat_length]

/-- The fifteenth byte is stored, RX_CNT restarts, and the frame is counted or a resync entered (R161, R162). -/
theorem exec_rxByte_last (hl : s.lstate = .active) (hs : s.syncState = .synced) (hcnt : s.rxCnt = 14)
    {body : List Byte} (hlen : body.length = 14) (hbody : ∀ j, j < 14 → s.rxBuf.read j = body[j]?) (b : Byte) :
    exec (.rxByte b) s = .next (if chk s.cfg.checksumAlg body = b then (s.rxPut b).rxRestart.countReceived
      else (s.rxPut b).rxRestart.enterResync) := by
  have hread := readBytes_rxPut_last hcnt hlen hbody b
  rw [exec_rxByte_of_synced hl hs, finish_eq_next, rxFrameByte_eq_ok, hcnt]
  refine ⟨by decide, .inr ⟨by decide, body ++ [b], hread, ?_⟩⟩
  rw [verify_append hlen, ← Bool.not_eq_true, verify_append hlen]
  split
  · exact .inl ⟨‹_›, rfl⟩
  · exact .inr ⟨‹_›, rfl⟩

/-- Settles O44: one clause a place of the byte in its frame; RX_BUF is the store with that byte written. -/
theorem rxByteAssemblesFrame : Obligations.RxByteAssemblesFrame := by
  refine fun b s hl hs => ⟨fun hcnt => ⟨(s.rxPut b).rxBuf, exec_rxByte_mid hl hs hcnt b, s.rxPut_read_self b,
    fun j hj => State.rxPut_read_of_ne hj b⟩, fun body hcnt hlen hbody => ?_⟩
  have hat : s.rxCnt.toNat = 14 := by rw [hcnt]; rfl
  refine ⟨(s.rxPut b).rxBuf, hat ▸ s.rxPut_read_self b, fun j hj => State.rxPut_read_of_ne (hat ▸ hj) b,
    fun hc => ?_, fun hc => ?_⟩
  · rw [exec_rxByte_last hl hs hcnt hlen hbody, if_pos hc]
    rfl
  · rw [exec_rxByte_last hl hs hcnt hlen hbody, if_neg hc]
    rfl

/-! ## The bytes of one frame -/

/-- The state after the bytes `bs` are received inside a frame. -/
def State.rxPutAll (s : State) (bs : List Byte) : State :=
  { s with rxBuf := s.rxBuf.writeBytes s.rxCnt.toNat bs, rxCnt := s.rxCnt + BitVec.ofNat 4 bs.length }

theorem State.rxPutAll_nil (s : State) : s.rxPutAll [] = s := by
  simp [State.rxPutAll, Memory.writeBytes]

theorem State.rxPutAll_cons (hcnt : s.rxCnt.toNat < 14) (b : Byte) (bs : List Byte) :
    s.rxPutAll (b :: bs) = (s.rxPut b).rxAdvance.rxPutAll bs := by
  have hnext : (s.rxCnt + 1).toNat = s.rxCnt.toNat + 1 := by bv_omega
  have hlen : s.rxCnt + BitVec.ofNat 4 (bs.length + 1) = s.rxCnt + 1 + BitVec.ofNat 4 bs.length := by bv_omega
  simp only [State.rxPutAll, State.rxPut, State.rxAdvance, Memory.writeBytes, List.length_cons, hnext, hlen]

/-- Bytes that do not reach the fifteenth are stored from RX_BUF[RX_CNT] up (R161). -/
theorem execAll_rxBytes_mid {bs : List Byte} (hl : s.lstate = .active) (hs : s.syncState = .synced)
    (hcnt : s.rxCnt.toNat + bs.length ≤ 14) : execAll (bs.map .rxByte) s = .next (s.rxPutAll bs) := by
  induction bs generalizing s with
  | nil => rw [State.rxPutAll_nil]; rfl
  | cons b bs ih =>
    rw [List.length_cons] at hcnt
    have hlt : s.rxCnt.toNat < 14 := by omega
    rw [State.rxPutAll_cons hlt, List.map_cons, execAll_cons]
    refine ⟨_, exec_rxByte_mid hl hs hlt b, ih hl hs ?_⟩
    change (s.rxCnt + 1).toNat + bs.length ≤ 14
    bv_omega

/-- Settles O45: fourteen bytes fill RX_BUF from index 0, and the fifteenth is verified with them. -/
theorem fifteenBytesMakeAFrame : Obligations.FifteenBytesMakeAFrame := by
  intro body c s hlen hl hs hcnt
  have hmid : execAll (body.map .rxByte) s = .next (s.rxPutAll body) :=
    execAll_rxBytes_mid hl hs (by rw [hcnt, hlen]; decide)
  have hcnt' : (s.rxPutAll body).rxCnt = 14 := by rw [State.rxPutAll, hcnt, hlen]; rfl
  have hbody : ∀ j, j < 14 → (s.rxPutAll body).rxBuf.read j = body[j]? := fun j hj => by
    rw [State.rxPutAll, Memory.read_writeBytes, hcnt]
    simp [hlen, hj]
  have hrestart : ((s.rxPutAll body).rxPut c).rxRestart =
      { s with rxBuf := ((s.rxPutAll body).rxPut c).rxBuf } := by
    rw [State.rxRestart, ← hcnt]
    rfl
  refine ⟨((s.rxPutAll body).rxPut c).rxBuf, readBytes_rxPut_last hcnt' hlen hbody c, ?_⟩
  rw [List.map_append, execAll_append]
  refine ⟨_, hmid, ?_⟩
  rw [List.map_singleton, execAll_singleton, exec_rxByte_last (by exact hl) (by exact hs) hcnt' hlen hbody, hrestart]
  rfl

end Sys2Proof.Machine
end

section
/-! SUPPORT. The transport (R101 to R104, R150): what SND_DEQ, TX_BYTE and SYNC_ACQ answer, what realignment denies the
sender, and the rest of an item as one run of TX_BYTEs. -/

namespace Sys2Proof.Machine

variable {i : Instr} {s t : State}

/-! ## SND_DEQ (R101, R150) -/

theorem exec_sndDeq_of_sndReady (hr : sndReady s = true) : exec .sndDeq s = finish (sndDeqBody s) := if_pos hr

theorem exec_sndDeq_granted {v : SlotIx} {q : List SlotIx} (hl : s.lstate = .active) (hst : s.sndState = .idle)
    (hf : s.filledQ = v :: q) (hg : tryGranted s = true) :
    exec .sndDeq s = .next ((s.setFilledQ q).beginTx v) := by
  have hr : sndReady s = true := sndReady_iff.2 ⟨hl, hst, by simp [hf]⟩
  rw [exec_sndDeq_of_sndReady hr, finish_eq_next]
  exact sndDeqBody_eq_ok.2 ⟨v, q, hf, .inl ⟨hg, rfl⟩⟩

theorem exec_sndDeq_denied {v : SlotIx} {q : List SlotIx} (hl : s.lstate = .active) (hst : s.sndState = .idle)
    (hf : s.filledQ = v :: q) (hg : tryGranted s = false) (hroom : s.freeQ.length < s.cfg.nSlots) (hnew : v ∉ s.freeQ) :
    exec .sndDeq s = .next ((s.setFilledQ q).countLost.setFreeQ (s.freeQ ++ [v])) := by
  have hr : sndReady s = true := sndReady_iff.2 ⟨hl, hst, by simp [hf]⟩
  rw [exec_sndDeq_of_sndReady hr, finish_eq_next]
  exact sndDeqBody_eq_ok.2 ⟨v, q, hf, .inr ⟨hg, hroom, hnew, rfl⟩⟩

/-- An idle sender does not own the channel, so only the sync FSM denies its try (R101). -/
theorem SenderLegal.tryGranted_eq_false (h : SenderLegal s) (hst : s.sndState = .idle) :
    tryGranted s = false ↔ s.owner = .sync ∨ s.syncState = .waitGrant := by
  have ho : s.owner ≠ .sender := fun hc => by rw [h.owns.1 hc] at hst; cases hst
  rw [Machine.tryGranted_eq_false]
  refine or_congr_left ?_
  cases hown : s.owner with
  | none | sync => decide
  | sender => exact absurd hown ho

/-- While the sync FSM waits for the channel or holds it, the sender's try is denied (R101, R106). -/
theorem SyncLegal.tryGranted_eq_false (h : SyncLegal s) (hs : s.syncState ≠ .synced) : tryGranted s = false := by
  rw [Machine.tryGranted_eq_false]
  cases hst : s.syncState with
  | synced => exact absurd hst hs
  | waitGrant => exact .inr rfl
  | resync => exact .inl (by rw [h.owns.2 hst]; decide)

/-- Settles O27: the granted and the denied try, and what denies a legal sender. -/
theorem sndDeqTriesChannel : Obligations.SndDeqTriesChannel := by
  refine fun s => ⟨sndReady_iff, fun h hr => ?_, fun v q hl hst hf => ⟨fun hg => ?_, fun hg hroom hnew => ?_⟩⟩
  · rw [← h.tryGranted_eq_false (sndReady_iff.1 hr).2.1, ← Bool.not_eq_true, tryGranted_iff]
  · exact exec_sndDeq_granted hl hst hf (tryGranted_iff.2 hg)
  · exact exec_sndDeq_denied hl hst hf (by rwa [← Bool.not_eq_true, tryGranted_iff]) hroom hnew

/-! ## TX_BYTE (R103, R104) -/

theorem exec_txByte_of_sender (hl : s.lstate = .active) (ho : s.owner = .sender) (hst : s.sndState = .tx) :
    exec .txByte s = finish (txSenderByte s) := by
  rw [exec, execTxByte, if_pos (txValid_iff.2 ⟨hl, .inl ⟨ho, hst⟩⟩), if_pos ho]

theorem exec_txByte_of_sync (hl : s.lstate = .active) (ho : s.owner = .sync) (hrem : 0 < s.syncTxRem.toNat) :
    exec .txByte s = .next (s.emit 0xFF).syncByteSent := by
  rw [exec, execTxByte, if_pos (txValid_iff.2 ⟨hl, .inr ⟨ho, hrem⟩⟩), if_neg (by simp [ho])]
  rfl

/-- A byte of a slot in range lies inside the slot store (R50). -/
theorem slotAddr_lt {v : SlotIx} {n k : Nat} (hv : v.toNat < n) (hk : k < frameSize) :
    slotAddr v k < n * frameSize := by
  have hle := slotAddr_le hv
  simp only [slotAddr, frameSize] at *
  omega

/-- Before the fifteenth a stored byte is emitted and SND_IDX advances (R104). -/
theorem exec_txByte_mid {b : Byte} (hl : s.lstate = .active) (ho : s.owner = .sender) (hst : s.sndState = .tx)
    (hv : s.sndSlot.toNat < s.cfg.nSlots) (hb : s.slots.read (slotAddr s.sndSlot s.sndIdx.toNat) = some b)
    (hidx : s.sndIdx.toNat < 14) : exec .txByte s = .next (s.emit b).advanceTx := by
  have hne : s.sndIdx ≠ 14 := fun hc => by rw [hc] at hidx; exact absurd hidx (by decide)
  rw [exec_txByte_of_sender hl ho hst, finish_eq_next]
  exact txSenderByte_eq_ok.2 ⟨b, slotAddr_lt hv (hidx.trans (by decide)), hb, .inl ⟨hne, rfl⟩⟩

/-- The state after the sender has emitted `bs` as the rest of its frame: the frame is counted, its slot freed, the sender
idle and the channel released (R104). -/
def State.frameSent (s : State) (bs : List Byte) : State :=
  { s with
    txOut := s.txOut ++ bs, stats := { s.stats with sent := s.stats.sent + 1 }, freeQ := s.freeQ ++ [s.sndSlot],
    sndState := .idle, sndSlot := 0, sndIdx := 0, owner := .none }

theorem exec_txByte_last {b : Byte} (hl : s.lstate = .active) (ho : s.owner = .sender) (hst : s.sndState = .tx)
    (hv : s.sndSlot.toNat < s.cfg.nSlots) (hb : s.slots.read (slotAddr s.sndSlot 14) = some b) (h14 : s.sndIdx = 14)
    (hroom : s.freeQ.length < s.cfg.nSlots) (hnew : s.sndSlot ∉ s.freeQ) :
    exec .txByte s = .next (s.frameSent [b]) := by
  have hat : s.sndIdx.toNat = 14 := by rw [h14]; rfl
  rw [exec_txByte_of_sender hl ho hst, finish_eq_next, txSenderByte_eq_ok, hat]
  exact ⟨b, slotAddr_lt hv (by decide), hb, .inr ⟨h14, hroom, hnew, rfl⟩⟩

/-- Settles O28: one clause a kind of byte. -/
theorem txByteEmitsOwnersByte : Obligations.TxByteEmitsOwnersByte :=
  fun _ => ⟨txValid_iff, fun _ => exec_txByte_mid, fun _ => exec_txByte_last, exec_txByte_of_sync⟩

/-! ## SYNC_ACQ (R102) -/

theorem exec_syncAcq (hl : s.lstate = .active) (hst : s.syncState = .waitGrant) (ho : s.owner = .none) :
    exec .syncAcq s = .next s.grantSync.countTriggered.countSyncFrame :=
  if_pos (syncReady_iff.2 ⟨hl, hst, ho⟩)

/-- Settles O33. -/
theorem syncAcqTakesChannel : Obligations.SyncAcqTakesChannel :=
  fun _ => ⟨syncReady_iff, exec_syncAcq⟩

/-! ## Precedence and the count of tries (R106, R128, R151) -/

/-- Outside SYNCED an operation leaves OWNER, releases the channel, or is the SYNC_ACQ that takes it (R28, R106). -/
theorem SyncLegal.owner_cases (h : SyncLegal s) (hs : s.syncState ≠ .synced) (he : exec i s = .next t) :
    t.owner = s.owner ∨ t.owner = .none ∨ (i = .syncAcq ∧ t.owner = .sync) := by
  obtain hkept | ⟨-, hg, -⟩ | ⟨hi, -, -, hsync⟩ | ⟨-, -, -, hnone⟩ | ⟨-, -, -, -, -, hnone, -⟩ :=
    ownerChangesOnlyAsRuled i s t h he
  · exact .inl hkept
  · rw [h.tryGranted_eq_false hs] at hg; cases hg
  · exact .inr (.inr ⟨hi, hsync⟩)
  · exact .inr (.inl hnone)
  · exact .inr (.inl hnone)

/-- Settles O36: outside SYNCED OWNER can only go to the sync FSM, and the sender's try is denied. -/
theorem realignmentTakesPrecedence : Obligations.RealignmentTakesPrecedence := by
  intro i s t h hs he
  have e := exec_effect he
  have howner := h.owner_cases hs he
  refine ⟨fun hne => ?_, fun _ ho hne => ?_, ?_, fun hr hi => ?_⟩
  · obtain hkept | hnone | ⟨-, hsync⟩ := howner
    · rwa [hkept]
    · simp [hnone]
    · simp [hsync]
  · obtain hkept | hnone | hacq := howner
    · exact absurd (hkept.trans ho) hne
    · exact absurd hnone hne
    · exact hacq
  · exact e.received_cases.resolve_right fun ⟨_, _, hsynced, _⟩ => hs hsynced
  · subst hi
    exact e.lost_succ hr (h.tryGranted_eq_false hs)

/-- The SND_DEQs that R151 counts: the frames sent, the frames lost and the one in transmission. -/
def framesDequeued (s : State) : Reg :=
  s.stats.sent + s.stats.lost + (if s.sndState = .tx then 1 else 0)

theorem framesDequeued_congr (hsent : t.stats.sent = s.stats.sent) (hlost : t.stats.lost = s.stats.lost)
    (hst : t.sndState = s.sndState) : framesDequeued t = framesDequeued s := by
  rw [framesDequeued, framesDequeued, hsent, hlost, hst]

/-- Settles O19: a granted SND_DEQ begins a transmission, a denied one is lost, and the fifteenth byte turns the frame in
transmission into one sent. -/
theorem sentPlusLostCountsDequeues : Obligations.SentPlusLostCountsDequeues := by
  intro i s t he
  cases exec_effect he with
  | held hen => simp [hen]
  | deqGranted hr => simp [enabled, hr, (sndReady_iff.1 hr).2.1]
  | deqLost hr => simp [enabled, hr, (sndReady_iff.1 hr).2.1, inc32, add_assoc]
  | txLast _ _ hst => simp [hst, inc32, add_right_comm]
  | _ =>
    refine (framesDequeued_congr (s := s) (by simp) (by simp) (by simp)).trans ?_
    simp [framesDequeued]

/-! ## The rest of an item (R104, R105) -/

theorem Memory.readBytes_succ_eq_some {m : Memory} {a n : Nat} {bs : List Byte} :
    m.readBytes a (n + 1) = some bs ↔
      ∃ b bs', m.read a = some b ∧ m.readBytes (a + 1) n = some bs' ∧ bs = b :: bs' := by
  rw [Memory.readBytes]
  cases m.read a <;> cases m.readBytes (a + 1) n <;> simp [eq_comm]

/-- From a legal state the sender's remaining `n` bytes leave in `n` TX_BYTEs and complete its frame (R104, R105). -/
theorem Legal.execAll_txBytes_sender {n : Nat} {bs : List Byte} (h : Legal s) (hl : s.lstate = .active)
    (ho : s.owner = .sender) (hn : s.sndIdx.toNat + n = 15)
    (hread : s.slots.readBytes (slotAddr s.sndSlot s.sndIdx.toNat) n = some bs) :
    execAll (List.replicate n .txByte) s = .next (s.frameSent bs) := by
  induction n generalizing s bs with
  | zero => exact absurd h.sender.idx (by omega)
  | succ n ih =>
    have hst := h.sender.owns.1 ho
    obtain ⟨hv, hroom, hnew⟩ := h.slots.release (v := s.sndSlot) (by simp [inFlight, hst])
    obtain ⟨b, bs, hb, hbs, rfl⟩ := Memory.readBytes_succ_eq_some.1 hread
    rw [List.replicate_succ, execAll_cons]
    cases n with
    | zero =>
      have h14 : s.sndIdx = 14 := by bv_omega
      cases hbs
      rw [h14] at hb
      exact ⟨_, exec_txByte_last hl ho hst hv hb h14 hroom hnew, rfl⟩
    | succ n =>
      have hmid := exec_txByte_mid hl ho hst hv hb (by omega)
      have hnext : (s.emit b).advanceTx.sndIdx.toNat = s.sndIdx.toNat + 1 := by
        change (s.sndIdx + 1).toNat = _
        bv_omega
      refine ⟨_, hmid, ?_⟩
      rw [ih (h.of_exec hmid) hl ho (by omega) (by rw [hnext]; exact hbs)]
      simp [State.frameSent, State.emit, State.advanceTx]

/-- The SyncFrame's remaining `n` bytes leave in `n` TX_BYTEs, and the channel stays held (R104, R107). -/
theorem execAll_txBytes_sync {n : Nat} (hl : s.lstate = .active) (ho : s.owner = .sync) (hn : s.syncTxRem.toNat = n) :
    execAll (List.replicate n .txByte) s =
      .next { s with txOut := s.txOut ++ List.replicate n 0xFF, syncTxRem := 0 } := by
  induction n generalizing s with
  | zero =>
    have hrem : s.syncTxRem = 0 := by bv_omega
    rw [← hrem]
    simp [execAll]
  | succ n ih =>
    rw [List.replicate_succ, execAll_cons]
    refine ⟨_, exec_txByte_of_sync hl ho (by omega), ?_⟩
    have hnext : (s.emit 0xFF).syncByteSent.syncTxRem.toNat = n := by
      change (s.syncTxRem - 1).toNat = n
      bv_omega
    rw [ih (s := (s.emit 0xFF).syncByteSent) hl ho hnext]
    simp [State.emit, State.syncByteSent, List.replicate_succ]

/-- Settles O38: the acquired channel has a whole SyncFrame remaining. -/
theorem acquireSendsWholeSyncFrame : Obligations.AcquireSendsWholeSyncFrame := by
  intro s hl hst ho
  rw [execAll_cons]
  exact ⟨_, exec_syncAcq hl hst ho, execAll_txBytes_sync hl rfl rfl⟩

/-- Settles O30: a granted try leaves the sender with all 15 bytes of the slot remaining. -/
theorem sendTransmitsWholeFrame : Obligations.SendTransmitsWholeFrame := by
  intro s v q h hl hst hf ho hs
  obtain ⟨f, hframe, -⟩ := h.stamped v (by simp [hf])
  have hdeq := exec_sndDeq_granted hl hst hf (tryGranted_iff.2 ⟨ho, hs⟩)
  obtain ⟨hslot, hidx⟩ := h.sender.idle hst
  have hend : ((s.setFilledQ q).beginTx v).frameSent f = { s with
      filledQ := q, freeQ := s.freeQ ++ [v], txOut := s.txOut ++ f,
      stats := { s.stats with sent := s.stats.sent + 1 } } := by
    simp [State.frameSent, State.setFilledQ, State.beginTx, hslot, hidx, hst, ho]
  refine ⟨f, hframe, ?_⟩
  rw [execAll_cons, ← hend]
  exact ⟨_, hdeq, (h.of_exec hdeq).execAll_txBytes_sender hl rfl rfl hframe⟩

/-- Settles O37: the sender's remaining bytes complete its frame, which releases the channel to the waiting sync FSM. -/
theorem syncWaitIsBounded : Obligations.SyncWaitIsBounded := by
  intro s h hl hs ho
  have hidx := h.sender.idx
  have hmem : s.sndSlot ∈ s.filledQ ++ inFlight s := by simp [inFlight, h.sender.owns.1 ho]
  obtain ⟨bs, hread⟩ : ∃ bs, s.slots.readBytes (slotAddr s.sndSlot s.sndIdx.toNat) (15 - s.sndIdx.toNat) = some bs := by
    refine Memory.exists_readBytes fun i hi => Option.isSome_iff_exists.2 ?_
    rw [slotAddr, Nat.add_assoc]
    exact h.stamped.exists_read hmem (by simp only [frameSize]; omega)
  exact ⟨s.frameSent bs, h.execAll_txBytes_sender hl ho (by omega) hread, syncReady_iff.2 ⟨hl, hs, rfl⟩, rfl, rfl, rfl⟩

end Sys2Proof.Machine
end

section
/-! SUPPORT. The sync protocol (R122 to R129): a resync pass as its three counts and what they settle, a run of equal
passes in one equation, and the byte timer of a running edge. -/

namespace Sys2Proof.Machine

variable {s t : State} {b : Option Byte}

/-! ## One pass (R122 to R126) -/

/-- TMO_CNT, HIT_CNT and STAT_SYNC_TMO_TICKS replaced: all that the counting step of a pass writes (R123). -/
def State.counted (s : State) (tmo : BitVec 8) (hit : BitVec 4) (ticks : Reg) : State :=
  { s with tmoCnt := tmo, hitCnt := hit, stats := { s.stats with syncTmoTicks := ticks } }

/-- The operation that performs a pass: RX_BYTE with a byte, TIMEOUT without one (R126, R163). -/
def passOp : Option Byte → Instr
  | none => .timeout
  | some b => .rxByte b

theorem exec_passOp (hp : passPossible s = true) (b : Option Byte) :
    exec (passOp b) s = .next (settlePass (countPass b s)) := by
  obtain ⟨hl, hst, hrem⟩ := passPossible_iff.1 hp
  cases b with
  | none => exact if_pos hp
  | some b => simp [passOp, exec, execRxByte, rxReady, hl, hst, hrem, resyncPass]

theorem isTick_iff {c : Config} : isTick c b = true ↔ c.tmoCountMode = .everyPass ∨ b = none := by
  simp [isTick]

theorem countPass_eq_counted (b : Option Byte) (s : State) : countPass b s =
    s.counted (countPass b s).tmoCnt (countPass b s).hitCnt (countPass b s).stats.syncTmoTicks := by
  unfold countPass countHit
  repeat' split
  all_goals rfl

theorem countPass_syncTmoTicks (b : Option Byte) (s : State) : (countPass b s).stats.syncTmoTicks =
    if isTick s.cfg b then s.stats.syncTmoTicks + 1 else s.stats.syncTmoTicks := by
  rw [countPass_stats]
  split <;> rfl

/-- The fifteenth hit terminates, whatever TMO_CNT is (R122, R124). -/
theorem settlePass_of_hits (h15 : s.hitCnt = 15) : settlePass s = s.terminate := by
  simp [settlePass, h15]

/-- Fewer hits at the threshold resend (R125). -/
theorem settlePass_of_threshold (h15 : s.hitCnt ≠ 15) (htmo : s.tmoCnt.toNat = s.cfg.syncTimeoutThrs) :
    settlePass s = s.resendSync.countSyncFrame := by
  have hne : s.hitCnt.toNat ≠ 15 := by bv_omega
  simp [settlePass, resend, hne, htmo]

/-- A pass that meets neither bound only counts (R122). -/
theorem settlePass_of_neither (h15 : s.hitCnt ≠ 15) (htmo : s.tmoCnt.toNat ≠ s.cfg.syncTimeoutThrs) :
    settlePass s = s := by
  have hne : s.hitCnt.toNat ≠ 15 := by bv_omega
  simp [settlePass, hne, htmo]

/-- The premises of R123 fix the counts of a pass. -/
theorem countPass_eq_of_rules {tmo : BitVec 8} {hit : BitVec 4} {ticks : Reg}
    (htick : s.cfg.tmoCountMode = .everyPass ∨ b = none → tmo = s.tmoCnt + 1 ∧ ticks = s.stats.syncTmoTicks + 1)
    (hquiet : ¬ (s.cfg.tmoCountMode = .everyPass ∨ b = none) → tmo = s.tmoCnt ∧ ticks = s.stats.syncTmoTicks)
    (hhit : b = some 0xFF → hit = s.hitCnt + 1)
    (hclear : b ≠ some 0xFF → b ≠ none → s.cfg.syncHitMode = .contiguous → hit = 0)
    (hkeep : b ≠ some 0xFF → b = none ∨ s.cfg.syncHitMode = .cumulative → hit = s.hitCnt) :
    countPass b s = s.counted tmo hit ticks := by
  have hticks : (countPass b s).tmoCnt = tmo ∧ (countPass b s).stats.syncTmoTicks = ticks := by
    rw [countPass_tmoCnt, countPass_syncTmoTicks]
    by_cases ht : s.cfg.tmoCountMode = .everyPass ∨ b = none
    · simp [isTick_iff.2 ht, htick ht]
    · simp [isTick_iff, ht, hquiet ht]
  have hhits : (countPass b s).hitCnt = hit := by
    rw [countPass_hitCnt]
    split
    · exact (hhit ‹_›).symm
    · split
      case isTrue hff h => exact (hclear hff h.1 h.2).symm
      case isFalse hff h =>
        refine (hkeep hff ?_).symm
        cases hm : s.cfg.syncHitMode <;> simp_all
  rw [countPass_eq_counted, hticks.1, hticks.2, hhits]

/-- Settles O39: a pass counts to `State.counted`, and `settlePass` has the three outcomes. -/
theorem resyncPassCountsThenSettles : Obligations.ResyncPassCountsThenSettles := by
  refine ⟨fun s => passPossible_iff, fun s b hl hst hrem tmo hit ticks htick hquiet hhit hclear hkeep => ?_⟩
  have hpass : exec (passOp b) s = .next (settlePass (s.counted tmo hit ticks)) := by
    rw [exec_passOp (passPossible_iff.2 ⟨hl, hst, hrem⟩), countPass_eq_of_rules htick hquiet hhit hclear hkeep]
  refine Eq.trans (by cases b <;> rfl) (hpass.trans (congrArg _ ?_))
  by_cases h15 : hit = 15
  · rw [if_pos h15]
    exact settlePass_of_hits h15
  · rw [if_neg h15]
    by_cases hthrs : tmo.toNat = s.cfg.syncTimeoutThrs
    · rw [if_pos hthrs]
      exact settlePass_of_threshold h15 hthrs
    · rw [if_neg hthrs]
      exact settlePass_of_neither h15 hthrs

/-- Settles O40: a pass without a byte is no hit, so it cannot reach the fifteenth. -/
theorem timeoutNeverTerminates : Obligations.TimeoutNeverTerminates := by
  intro s t h he
  cases exec_effect he with
  | held => exact ⟨rfl, rfl, rfl⟩
  | timeoutPass =>
    have hhit : (countPass none s).hitCnt = s.hitCnt := by simp [countPass_hitCnt]
    obtain ⟨h15, -⟩ | ⟨-, -, hr⟩ | ⟨-, -, hr⟩ := resyncPass_cases none s
    · cases (h.fifteenth_hit h15).1
    all_goals
      rw [hr]
      exact ⟨by simp, by simp, hhit⟩

/-! ## A run of equal passes (R126, R128, R129) -/

/-- The ticks a pass counts (R123). -/
def ticksOf (c : Config) (b : Option Byte) : Nat := if isTick c b then 1 else 0

/-- The hits a pass counts (R123). -/
def hitsOf (b : Option Byte) : Nat := if b = some 0xFF then 1 else 0

/-- The counts after `n` passes with `b`, none of which met a bound (R122, R123). -/
def State.passed (s : State) (b : Option Byte) (n : Nat) : State :=
  s.counted (s.tmoCnt + BitVec.ofNat 8 (n * ticksOf s.cfg b)) (s.hitCnt + BitVec.ofNat 4 (n * hitsOf b))
    (s.stats.syncTmoTicks + BitVec.ofNat 32 (n * ticksOf s.cfg b))

theorem State.passed_zero (s : State) (b : Option Byte) : s.passed b 0 = s := by
  simp [State.passed, State.counted]

/-- One more pass, with 0xFF or without a byte, advances the counts by its ticks and hits. -/
theorem countPass_passed (hb : b = none ∨ b = some 0xFF) (s : State) (n : Nat) :
    countPass b (s.passed b n) = s.passed b (n + 1) := by
  have hticks : (countPass b (s.passed b n)).tmoCnt = (s.passed b (n + 1)).tmoCnt ∧
      (countPass b (s.passed b n)).stats.syncTmoTicks = (s.passed b (n + 1)).stats.syncTmoTicks := by
    rw [countPass_tmoCnt, countPass_syncTmoTicks]
    cases ht : isTick s.cfg b <;> simp [State.passed, State.counted, ticksOf, ht, BitVec.ofNat_add, add_assoc]
  have hhits : (countPass b (s.passed b n)).hitCnt = (s.passed b (n + 1)).hitCnt := by
    rw [countPass_hitCnt]
    obtain rfl | rfl := hb <;> simp [State.passed, State.counted, hitsOf, BitVec.ofNat_add, add_assoc]
  rw [countPass_eq_counted, hticks.1, hticks.2, hhits]
  rfl

theorem exec_passed (hb : b = none ∨ b = some 0xFF) (hp : passPossible s = true) (n : Nat) :
    exec (passOp b) (s.passed b n) = .next (settlePass (s.passed b (n + 1))) := by
  rw [exec_passOp (by exact hp), countPass_passed hb]

theorem State.passed_hitCnt {n : Nat} (hhit : s.hitCnt.toNat + n * hitsOf b < 16) :
    (s.passed b n).hitCnt.toNat = s.hitCnt.toNat + n * hitsOf b := by
  simp only [State.passed, State.counted, BitVec.toNat_add, BitVec.toNat_ofNat]
  omega

theorem State.passed_tmoCnt {n : Nat} (htmo : s.tmoCnt.toNat + n * ticksOf s.cfg b < 256) :
    (s.passed b n).tmoCnt.toNat = s.tmoCnt.toNat + n * ticksOf s.cfg b := by
  simp only [State.passed, State.counted, BitVec.toNat_add, BitVec.toNat_ofNat]
  omega

/-- Passes that meet neither bound on the way only count. -/
theorem execAll_passes {n : Nat} (hb : b = none ∨ b = some 0xFF) (hp : passPossible s = true) (hw : s.cfg.wf = true)
    (hhit : s.hitCnt.toNat + n * hitsOf b < 15)
    (htmo : s.tmoCnt.toNat + n * ticksOf s.cfg b < s.cfg.syncTimeoutThrs) :
    execAll (List.replicate n (passOp b)) s = .next (s.passed b n) := by
  obtain ⟨-, -, -, hthrs, -⟩ := Config.wf_iff.1 hw
  induction n with
  | zero => rw [State.passed_zero]; rfl
  | succ n ih =>
    have hhits := State.passed_hitCnt (s := s) (b := b) (n := n + 1) (by omega)
    have htmos := State.passed_tmoCnt (s := s) (b := b) (n := n + 1) (by omega)
    have hsettle : settlePass (s.passed b (n + 1)) = s.passed b (n + 1) :=
      settlePass_of_neither (by bv_omega) (by rw [htmos]; exact htmo.ne)
    rw [Nat.succ_mul] at hhit htmo
    rw [List.replicate_succ', execAll_append]
    exact ⟨_, ih (by omega) (by omega), by rw [execAll_singleton, exec_passed hb hp, hsettle]⟩

/-- The pass after such a run settles the counts. -/
theorem execAll_passes_succ {n : Nat} (hb : b = none ∨ b = some 0xFF) (hp : passPossible s = true)
    (hw : s.cfg.wf = true) (hhit : s.hitCnt.toNat + n * hitsOf b < 15)
    (htmo : s.tmoCnt.toNat + n * ticksOf s.cfg b < s.cfg.syncTimeoutThrs) :
    execAll (List.replicate (n + 1) (passOp b)) s = .next (settlePass (s.passed b (n + 1))) := by
  rw [List.replicate_succ', execAll_append]
  exact ⟨_, execAll_passes hb hp hw hhit htmo, by rw [execAll_singleton, exec_passed hb hp]⟩

/-- Settles O41: fourteen hits only count, and the fifteenth terminates. -/
theorem fifteenHitsEndResync : Obligations.FifteenHitsEndResync := by
  intro s hl hst hrem hhit hw hevery hbelow
  have hp := passPossible_iff.2 ⟨hl, hst, hrem⟩
  have htmo : ∀ n, n < 15 → s.tmoCnt.toNat + n * ticksOf s.cfg (some 0xFF) < s.cfg.syncTimeoutThrs := fun n hn => by
    by_cases hm : s.cfg.tmoCountMode = .everyPass
    · have := hevery hm
      simp only [ticksOf, isTick, hm, decide_true, Bool.true_or, if_true]
      omega
    · simpa [ticksOf, isTick, hm] using hbelow
  have hhits : ∀ n, s.hitCnt.toNat + n * hitsOf (some 0xFF) = n := fun n => by simp [hhit, hitsOf]
  refine ⟨fun n t hn he => ?_, ?_⟩
  · have hrun := execAll_passes (.inr rfl) hp hw ((hhits n).trans_lt hn) (htmo n hn)
    cases hrun.symm.trans he
    exact ⟨hst, (State.passed_hitCnt (by rw [hhits]; omega)).trans (hhits n)⟩
  · have hrun := execAll_passes_succ (.inr rfl) hp hw ((hhits 14).trans_lt (by decide)) (htmo 14 (by decide))
    have h15 : (s.passed (some 0xFF) 15).hitCnt = 15 := by simp [State.passed, State.counted, hhit, hitsOf]
    refine hrun.trans (congrArg _ ((settlePass_of_hits h15).trans ?_))
    by_cases hm : s.cfg.tmoCountMode = .everyPass <;>
      simp [State.passed, State.counted, State.terminate, ticksOf, isTick, hm]

/-- Settles O42: TIMEOUTs short of the threshold only count, and the one that meets it resends. -/
theorem timeoutsResendSyncFrame : Obligations.TimeoutsResendSyncFrame := by
  intro s h hl hst hrem
  obtain ⟨-, -, -, hthrs, -⟩ := Config.wf_iff.1 h.cfg
  have hticks : ∀ n, n * ticksOf s.cfg none = n := by simp [ticksOf, isTick]
  have hhits : ∀ n, n * hitsOf none = 0 := by simp [hitsOf]
  have hhit : ∀ n, (s.passed none n).hitCnt = s.hitCnt := fun n => by simp [State.passed, State.counted, hhits]
  have hle := h.sync.hits
  obtain ⟨n, hn⟩ : ∃ n, s.cfg.syncTimeoutThrs - s.tmoCnt.toNat = n + 1 :=
    Nat.exists_eq_add_one_of_ne_zero (Nat.sub_ne_zero_of_lt h.sync.ticks)
  have hrun := execAll_passes_succ (n := n) (.inl rfl) (passPossible_iff.2 ⟨hl, hst, hrem⟩) h.cfg
    (by rw [hhits]; omega) (by rw [hticks]; omega)
  have htmo : (s.passed none (n + 1)).tmoCnt.toNat = s.cfg.syncTimeoutThrs := by
    rw [State.passed_tmoCnt (by rw [hticks]; omega), hticks]
    omega
  rw [hn]
  have hne : (s.passed none (n + 1)).hitCnt ≠ 15 := by rw [hhit]; bv_omega
  refine ⟨_, hrun.trans (congrArg _ (settlePass_of_threshold hne htmo)), rfl, rfl, hhit _, hst, rfl, rfl, ?_⟩
  simp [State.passed, State.counted, hticks]

/-! ## The byte timer (R127) -/

/-- The operations of a running edge leave the timer at its next value. -/
theorem clockEdge_byteTimer {c : ClockCycle} (hr : c.rstN = true) (he : clockEdge c s = .next t) :
    t.byteTimer = nextTimer c s := by
  rw [clockEdge_of_running hr] at he
  exact execAll_keeps (P := fun u => u.byteTimer = nextTimer c s)
    (fun _ _ _ hu he => (exec_effect he).keeps_byteTimer.trans hu) rfl he

/-- Where a pass is possible, the timer advances exactly in a cycle without a byte that does not reach the bound. -/
theorem nextTimer_of_pass (hp : passPossible s = true) (c : ClockCycle) : nextTimer c s =
    if c.rxValid = false ∧ s.byteTimer + 1 < s.cfg.byteTimeoutCycles then s.byteTimer + 1 else 0 := by
  have hready : rxReady s = true := rxReady_iff.2 (.inr (.inr (passPossible_iff.1 hp).2))
  cases hv : c.rxValid <;> simp [nextTimer, timerExpires, rxXfer, hp, hready, hv]

/-- Settles O57: the timer after the edge is `nextTimer`, and TIMEOUT is performed exactly when it expires. -/
theorem byteTimerRuns : Obligations.ByteTimerRuns := by
  intro c s t hr he
  rw [clockEdge_byteTimer hr he, timeout_mem_cycleOps]
  refine ⟨fun hp => nextTimer_of_no_pass hp c, fun hp hv => ?_, fun hp hv hlt => ?_, fun hp hv hle => ?_⟩
  · simp [nextTimer_of_pass hp, hv]
  · simp [nextTimer_of_pass hp, hv, hlt]
  · have hnlt := hle.not_gt
    simp [nextTimer_of_pass hp, hv, hle, hnlt, enabled, hp]

end Sys2Proof.Machine
end

section
/-! SUPPORT. The receiver outside ACTIVE (R160, R164): its guard, and the byte it discards. -/

namespace Sys2Proof.Machine

/-- Settles O43: the guard of RX_BYTE is `rxReady`, and outside ACTIVE `execRxByte` answers the state it was given. -/
theorem rxByteReadyAndDiscard : Obligations.RxByteReadyAndDiscard :=
  fun b _ => ⟨rxReady_iff, fun hl => execRxByte_of_not_active hl b⟩

end Sys2Proof.Machine
end
